-- ==== Sys2Proof/Word.lean ====
section
/-! DEFINITION. The two word types of MikasEmulators CORE (00_scope.md R6, R11). Addition and
subtraction of these types wrap, as R11 says of every register. -/

namespace Sys2Proof

/-- A `u8`: an 8-bit register, a memory cell, an immediate or displacement byte (R6 `XLEN8`). -/
abbrev Byte := BitVec 8

/-- A `u16`: an address, SP, PC, IX, IY or a register pair (R6 `XLEN16`, `ALEN`). -/
abbrev Word := BitVec 16

end Sys2Proof
end

