-- ==== Sys2Proof/Config.lean ====
section
/-! DEFINITION. The parameters of the block (00_scope.md R5, R6): those fixed for one machine, the vocabulary of
the open parameter `ENV_MEM`, and the one free value, what an environment other than plain memory answers. -/

namespace Sys2Proof

/-- The flag policy and instruction subset, `POLICY` (00_scope.md R5). The third policy the
document names, `GB`, is recorded only and not instantiable (R4, R5, D1; log 11). -/
inductive Policy where
  /-- Zilog Z80, the reference configuration. -/
  | z80
  /-- Intel 8080. -/
  | i8080
deriving DecidableEq, Repr

/-- The reference configuration (00_scope.md R5). -/
def Config.referencePolicy : Policy := .z80

/-- `RESET_PC` (00_scope.md R6, 10_state.md R35). -/
def Config.resetPc : Word := 0x0000#16

/-- `RST_SPACING`, the distance between restart addresses (00_scope.md R6, 46 R182, D23). -/
def Config.rstSpacing : Nat := 8

/-- `MEM_SIZE`, bytes of memory under either policy (00_scope.md R6). -/
def Config.memSize : Nat := 65536

/-- What the environment attaches at an address: RAM, ROM, nothing, or a device (00_scope.md R6 `ENV_MEM`,
20_memory.md R50). -/
inductive MemKind where
  | ram | rom | hole | device
deriving DecidableEq, Repr

/-- `size` addresses from `base` on, modulo 65536, with the same thing attached. -/
structure Region where
  base : Word
  size : Nat
  kind : MemKind
deriving DecidableEq, Repr

/-- `ENV_MEM`: what is attached where (00_scope.md R6, 20_memory.md R50, D14; log 5). The first region that
holds an address counts; an address in none is RAM, so the default environment is the empty list. -/
abbrev Environment := List Region

/-- The default of `ENV_MEM`: 65536 bytes of RAM (00_scope.md R6, D14). -/
def Config.defaultEnvironment : Environment := []

/-- One transaction of the block's interfaces (00_scope.md R8), with the value that went over it. -/
inductive Machine.Access where
  | memRead (addr : Word) (v : Byte)
  | memWrite (addr : Word) (v : Byte)
  | ioRead (port : Byte) (v : Byte)
  | ioWrite (port : Byte) (v : Byte)
deriving DecidableEq, Repr

/-- FREE VALUE: what a read of a hole or a device gives, as a function of every access that holes and devices
have answered so far and of the address. Nothing constrains it: the spec leaves such an environment open
(20_memory.md R50, R55, D14; log 13). Every such access makes the list longer, so every read is free anew. -/
opaque Config.environmentByte : List Machine.Access → Word → Byte

/-- `IO_PORTS`, 8-bit ports of the I/O space (00_scope.md R6, D28). -/
def Config.ioPorts : Nat := 256

end Sys2Proof
end

