-- ==== Sys2Proof/Machine/State.lean ====
section
/-! DEFINITION. The state of the block (10_state.md), what a step can stop with, and the state after reset. -/

namespace Sys2Proof.Machine

/-- The flag booleans (10_state.md R26). `n`, `f5` and `f3` exist under `Z80` only; under `I8080` they
are inert (log 7). -/
structure Flags where
  /-- carry -/
  c : Bool
  /-- half-carry, auxiliary carry -/
  h : Bool
  /-- zero -/
  z : Bool
  /-- sign -/
  s : Bool
  /-- parity or overflow -/
  pv : Bool
  /-- add/subtract -/
  n : Bool
  /-- undocumented bit 5 -/
  f5 : Bool
  /-- undocumented bit 3 -/
  f3 : Bool
deriving DecidableEq, Repr

/-- What a decode error records: the address of the instruction's first byte and that byte
(60_exceptions.md R212). -/
structure FaultRecord where
  addr : Word
  byte : Byte
deriving DecidableEq, Repr

/-- What the latest step put on the block's output interfaces (00_scope.md R8; log 6). No rule reads it. -/
structure Outputs where
  /-- `cycles`, the T-state count; `none` where the step outputs no count (70 R233, R234). -/
  cycles : Option Nat
  /-- The memory and I/O transactions of the step, in the order they happened (20_memory.md R55). -/
  bus : List Access
deriving DecidableEq, Repr

/-- A transaction follows those the step has made already. -/
def Outputs.log (x : Access) (o : Outputs) : Outputs := ⟨o.cycles, o.bus ++ [x]⟩

/-- A byte-addressed store as the list of its cells, addresses strictly rising and no cell equal to
what an unlisted address reads as (`Memory.wf` in Machine/Ops.lean). -/
abbrev Memory := List Host.Cell

/-- Everything the spec gives the block (10_state.md). -/
structure State where
  /-- The outputs of the latest step (00_scope.md R8). -/
  out : Outputs
  /-- The MODEL's own: every access that holes and devices have answered, in order. It selects the free value
  of the next read there (log 13). -/
  envHistory : List Access
  /-- `ENV_MEM`, the memory the environment attaches (00_scope.md R6; log 5). -/
  env : Environment
  /-- `POLICY`, the configuration this block was built with (00_scope.md R5; log 1). -/
  policy : Policy
  /-- The accumulator (R20). -/
  a : Byte
  b : Byte
  c : Byte
  d : Byte
  e : Byte
  h : Byte
  l : Byte
  /-- Index register, `Z80` only (R23). -/
  ix : Word
  /-- Index register, `Z80` only (R23). -/
  iy : Word
  /-- The stack pointer (R24). -/
  sp : Word
  /-- The program counter (R25). -/
  pc : Word
  /-- The flags (R26). -/
  f : Flags
  /-- Set by HALT, cleared by reset (R30). -/
  halted : Bool
  /-- The decode-error latch (R31). -/
  fault : Option FaultRecord
  /-- The bytes of memory (R33): what RAM holds and what ROM was launched with. -/
  mem : Memory
  /-- The 256 ports of the I/O space (R34). -/
  io : Memory
deriving DecidableEq, Repr

/-- Why a step can stop. -/
inductive Fault where
  /-- Raised by `step` alone, whenever the decode-error latch is set: "there is no step (the block is
  stuck)" until reset (30_encoding.md R79, 60_exceptions.md R215). Safe: the spec has no next state. -/
  | stuck (r : FaultRecord)
deriving DecidableEq, Repr

/-- Why an instruction could be refused. -/
inductive Refusal where
  /-- An instruction without a meaning in this model. No arm of `exec` answers it. Safe: a refused
  instruction has no next state. -/
  | notModelled (mnemonic : String)
deriving DecidableEq, Repr

/-- What a step answers. -/
abbrev Result := Host.Outcome State Fault Refusal

/-- The block right after reset (10_state.md R35): PC = `RESET_PC`, `halted` = 0, `fault` = none.
DESIGN CHOICE, unsafe: the registers and flags R35 leaves unspecified are zero (log 2), the policy is
the reference one (log 1), memory and ports list nothing (log 3), no step has made an output (log 6), and the
environment is the spec's default, plain RAM (log 5), of which nothing has been asked (log 13). -/
def State.reset : State where
  policy := Config.referencePolicy
  a := 0
  b := 0
  c := 0
  d := 0
  e := 0
  h := 0
  l := 0
  ix := 0
  iy := 0
  sp := 0
  pc := Config.resetPc
  f := ⟨false, false, false, false, false, false, false, false⟩
  halted := false
  fault := none
  mem := []
  io := []
  out := ⟨none, []⟩
  env := Config.defaultEnvironment
  envHistory := []

end Sys2Proof.Machine
end

