-- ==== Sys2Proof/Syntax.lean ====
section
/-! DEFINITION. The instruction set: the operand vocabulary of the field tables (30_encoding.md R70 to
R77) and `Instr`, one constructor per row of opcode_table.json (276 rows). -/

namespace Sys2Proof

/-- An 8-bit register of the field r (30_encoding.md R72, 10_state.md R20). -/
inductive Reg8 where
  | b | c | d | e | h | l | a
deriving DecidableEq, Repr

/-- A readable and writable 8-bit operand m: a register or a memory cell (42 §1, 43 R140). -/
inductive Place8 where
  | reg (r : Reg8)
  /-- `(HL)` -/
  | indHL
  /-- `(IX+d)` -/
  | indIX (d : Byte)
  /-- `(IY+d)` -/
  | indIY (d : Byte)
deriving DecidableEq, Repr

/-- The second operand s of the 8-bit ALU family (41 R110). -/
inductive Src8 where
  | loc (m : Place8)
  /-- The immediate byte n. -/
  | imm (n : Byte)
deriving DecidableEq, Repr

/-- The operation field o (30_encoding.md R75). -/
inductive AluOp where
  | add | adc | sub | sbc | and | xor | or | cp
deriving DecidableEq, Repr

/-- The rotate and shift field k (30_encoding.md R76). -/
inductive RotOp where
  | rlc | rrc | rl | rr | sla | sra | sll | srl
deriving DecidableEq, Repr

/-- A 16-bit register or pair that INC and DEC name (42 §2). -/
inductive Pair16 where
  | bc | de | hl | sp | ix | iy
deriving DecidableEq, Repr

/-- The destination of a 16-bit addition and of EX (SP) (45, 47 §3). -/
inductive Base16 where
  | hl | ix | iy
deriving DecidableEq, Repr

/-- The pair fields ss, pp and rr: value 2 names the destination's own register (30_encoding.md R73). -/
inductive Ss where
  | bc | de
  /-- HL after a HL form, IX in `ADD IX,pp`, IY in `ADD IY,rr`. -/
  | own
  | sp
deriving DecidableEq, Repr

/-- The operand of PUSH and POP: the field qq, or IX, IY (30_encoding.md R73, 47 R190 to R193). -/
inductive StackReg where
  | bc | de | hl | af | ix | iy
deriving DecidableEq, Repr

/-- The condition field cc (30_encoding.md R74, 46 R175). -/
inductive Cond where
  | nz | z | nc | c | po | pe | p | m
deriving DecidableEq, Repr

/-- The instruction formats (30_encoding.md R70). -/
inductive Format where
  | op | opN | opNN | cbOp | edOp | xyOp | xyOpD | xycbDOp
deriving DecidableEq, Repr

/-- The instructions. A register, pair, condition, operation or restart number is part of the row; `n`,
`nn` and `d` are the immediate byte, immediate word and displacement byte (30_encoding.md R78, R80).
The rows with an operand byte come first: Lean's compiler limits the number of a constructor that has
fields. -/
inductive Instr where
  /-- `ADD A,n` (R111). -/
  | addAImm (n : Byte)
  /-- `ADC A,n` (R112). -/
  | adcAImm (n : Byte)
  /-- `SUB n` (R113). -/
  | subImm (n : Byte)
  /-- `SBC A,n` (R114). -/
  | sbcAImm (n : Byte)
  /-- `AND n` (R115). -/
  | andImm (n : Byte)
  /-- `XOR n` (R116). -/
  | xorImm (n : Byte)
  /-- `OR n` (R117). -/
  | orImm (n : Byte)
  /-- `CP n` (R118). -/
  | cpImm (n : Byte)
  /-- `JP NZ,nn` (R177). -/
  | jpNZ (nn : Word)
  /-- `JP Z,nn` (R177). -/
  | jpZ (nn : Word)
  /-- `JP NC,nn` (R177). -/
  | jpNC (nn : Word)
  /-- `JP C,nn` (R177). -/
  | jpC (nn : Word)
  /-- `JP PO,nn` (R177). -/
  | jpPO (nn : Word)
  /-- `JP PE,nn` (R177). -/
  | jpPE (nn : Word)
  /-- `JP P,nn` (R177). -/
  | jpP (nn : Word)
  /-- `JP M,nn` (R177). -/
  | jpM (nn : Word)
  /-- `JP nn` (R176). -/
  | jp (nn : Word)
  /-- `CALL NZ,nn` (R179). -/
  | callNZ (nn : Word)
  /-- `CALL Z,nn` (R179). -/
  | callZ (nn : Word)
  /-- `CALL NC,nn` (R179). -/
  | callNC (nn : Word)
  /-- `CALL C,nn` (R179). -/
  | callC (nn : Word)
  /-- `CALL PO,nn` (R179). -/
  | callPO (nn : Word)
  /-- `CALL PE,nn` (R179). -/
  | callPE (nn : Word)
  /-- `CALL P,nn` (R179). -/
  | callP (nn : Word)
  /-- `CALL M,nn` (R179). -/
  | callM (nn : Word)
  /-- `CALL nn` (R178). -/
  | call (nn : Word)
  /-- `INC (IX+d)` (R130). -/
  | incIndIX (d : Byte)
  /-- `DEC (IX+d)` (R131). -/
  | decIndIX (d : Byte)
  /-- `INC (IY+d)` (R130). -/
  | incIndIY (d : Byte)
  /-- `DEC (IY+d)` (R131). -/
  | decIndIY (d : Byte)
  /-- `ADD A,(IX+d)` (R111). -/
  | addAIndIX (d : Byte)
  /-- `ADC A,(IX+d)` (R112). -/
  | adcAIndIX (d : Byte)
  /-- `SUB (IX+d)` (R113). -/
  | subIndIX (d : Byte)
  /-- `SBC A,(IX+d)` (R114). -/
  | sbcAIndIX (d : Byte)
  /-- `AND (IX+d)` (R115). -/
  | andIndIX (d : Byte)
  /-- `XOR (IX+d)` (R116). -/
  | xorIndIX (d : Byte)
  /-- `OR (IX+d)` (R117). -/
  | orIndIX (d : Byte)
  /-- `CP (IX+d)` (R118). -/
  | cpIndIX (d : Byte)
  /-- `ADD A,(IY+d)` (R111). -/
  | addAIndIY (d : Byte)
  /-- `ADC A,(IY+d)` (R112). -/
  | adcAIndIY (d : Byte)
  /-- `SUB (IY+d)` (R113). -/
  | subIndIY (d : Byte)
  /-- `SBC A,(IY+d)` (R114). -/
  | sbcAIndIY (d : Byte)
  /-- `AND (IY+d)` (R115). -/
  | andIndIY (d : Byte)
  /-- `XOR (IY+d)` (R116). -/
  | xorIndIY (d : Byte)
  /-- `OR (IY+d)` (R117). -/
  | orIndIY (d : Byte)
  /-- `CP (IY+d)` (R118). -/
  | cpIndIY (d : Byte)
  /-- `RLC (IX+d)` (R145). -/
  | rlcIndIX (d : Byte)
  /-- `RRC (IX+d)` (R146). -/
  | rrcIndIX (d : Byte)
  /-- `RL (IX+d)` (R147). -/
  | rlIndIX (d : Byte)
  /-- `RR (IX+d)` (R148). -/
  | rrIndIX (d : Byte)
  /-- `SLA (IX+d)` (R149). -/
  | slaIndIX (d : Byte)
  /-- `SRA (IX+d)` (R150). -/
  | sraIndIX (d : Byte)
  /-- `SLL (IX+d)` (R151). -/
  | sllIndIX (d : Byte)
  /-- `SRL (IX+d)` (R152). -/
  | srlIndIX (d : Byte)
  /-- `RLC (IY+d)` (R145). -/
  | rlcIndIY (d : Byte)
  /-- `RRC (IY+d)` (R146). -/
  | rrcIndIY (d : Byte)
  /-- `RL (IY+d)` (R147). -/
  | rlIndIY (d : Byte)
  /-- `RR (IY+d)` (R148). -/
  | rrIndIY (d : Byte)
  /-- `SLA (IY+d)` (R149). -/
  | slaIndIY (d : Byte)
  /-- `SRA (IY+d)` (R150). -/
  | sraIndIY (d : Byte)
  /-- `SLL (IY+d)` (R151). -/
  | sllIndIY (d : Byte)
  /-- `SRL (IY+d)` (R152). -/
  | srlIndIY (d : Byte)
  /-- `INC BC` (R132). -/
  | incBC
  /-- `INC DE` (R132). -/
  | incDE
  /-- `INC HL` (R132). -/
  | incHL
  /-- `INC SP` (R132). -/
  | incSP
  /-- `DEC BC` (R133). -/
  | decBC
  /-- `DEC DE` (R133). -/
  | decDE
  /-- `DEC HL` (R133). -/
  | decHL
  /-- `DEC SP` (R133). -/
  | decSP
  /-- `INC B` (R130). -/
  | incB
  /-- `INC C` (R130). -/
  | incC
  /-- `INC D` (R130). -/
  | incD
  /-- `INC E` (R130). -/
  | incE
  /-- `INC H` (R130). -/
  | incH
  /-- `INC L` (R130). -/
  | incL
  /-- `INC (HL)` (R130). -/
  | incIndHL
  /-- `INC A` (R130). -/
  | incA
  /-- `DEC B` (R131). -/
  | decB
  /-- `DEC C` (R131). -/
  | decC
  /-- `DEC D` (R131). -/
  | decD
  /-- `DEC E` (R131). -/
  | decE
  /-- `DEC H` (R131). -/
  | decH
  /-- `DEC L` (R131). -/
  | decL
  /-- `DEC (HL)` (R131). -/
  | decIndHL
  /-- `DEC A` (R131). -/
  | decA
  /-- `RLCA` (R141). -/
  | rlca
  /-- `RRCA` (R142). -/
  | rrca
  /-- `RLA` (R143). -/
  | rla
  /-- `RRA` (R144). -/
  | rra
  /-- `ADD HL,BC` (R165). -/
  | addHLBC
  /-- `ADD HL,DE` (R165). -/
  | addHLDE
  /-- `ADD HL,HL` (R165). -/
  | addHLHL
  /-- `ADD HL,SP` (R165). -/
  | addHLSP
  /-- `DAA` (R160). -/
  | daa
  /-- `HALT` (R200). -/
  | halt
  /-- `ADD A,B` (R111). -/
  | addAB
  /-- `ADD A,C` (R111). -/
  | addAC
  /-- `ADD A,D` (R111). -/
  | addAD
  /-- `ADD A,E` (R111). -/
  | addAE
  /-- `ADD A,H` (R111). -/
  | addAH
  /-- `ADD A,L` (R111). -/
  | addAL
  /-- `ADD A,(HL)` (R111). -/
  | addAIndHL
  /-- `ADD A,A` (R111). -/
  | addAA
  /-- `ADC A,B` (R112). -/
  | adcAB
  /-- `ADC A,C` (R112). -/
  | adcAC
  /-- `ADC A,D` (R112). -/
  | adcAD
  /-- `ADC A,E` (R112). -/
  | adcAE
  /-- `ADC A,H` (R112). -/
  | adcAH
  /-- `ADC A,L` (R112). -/
  | adcAL
  /-- `ADC A,(HL)` (R112). -/
  | adcAIndHL
  /-- `ADC A,A` (R112). -/
  | adcAA
  /-- `SUB B` (R113). -/
  | subB
  /-- `SUB C` (R113). -/
  | subC
  /-- `SUB D` (R113). -/
  | subD
  /-- `SUB E` (R113). -/
  | subE
  /-- `SUB H` (R113). -/
  | subH
  /-- `SUB L` (R113). -/
  | subL
  /-- `SUB (HL)` (R113). -/
  | subIndHL
  /-- `SUB A` (R113). -/
  | subA
  /-- `SBC A,B` (R114). -/
  | sbcAB
  /-- `SBC A,C` (R114). -/
  | sbcAC
  /-- `SBC A,D` (R114). -/
  | sbcAD
  /-- `SBC A,E` (R114). -/
  | sbcAE
  /-- `SBC A,H` (R114). -/
  | sbcAH
  /-- `SBC A,L` (R114). -/
  | sbcAL
  /-- `SBC A,(HL)` (R114). -/
  | sbcAIndHL
  /-- `SBC A,A` (R114). -/
  | sbcAA
  /-- `AND B` (R115). -/
  | andB
  /-- `AND C` (R115). -/
  | andC
  /-- `AND D` (R115). -/
  | andD
  /-- `AND E` (R115). -/
  | andE
  /-- `AND H` (R115). -/
  | andH
  /-- `AND L` (R115). -/
  | andL
  /-- `AND (HL)` (R115). -/
  | andIndHL
  /-- `AND A` (R115). -/
  | andA
  /-- `XOR B` (R116). -/
  | xorB
  /-- `XOR C` (R116). -/
  | xorC
  /-- `XOR D` (R116). -/
  | xorD
  /-- `XOR E` (R116). -/
  | xorE
  /-- `XOR H` (R116). -/
  | xorH
  /-- `XOR L` (R116). -/
  | xorL
  /-- `XOR (HL)` (R116). -/
  | xorIndHL
  /-- `XOR A` (R116). -/
  | xorA
  /-- `OR B` (R117). -/
  | orB
  /-- `OR C` (R117). -/
  | orC
  /-- `OR D` (R117). -/
  | orD
  /-- `OR E` (R117). -/
  | orE
  /-- `OR H` (R117). -/
  | orH
  /-- `OR L` (R117). -/
  | orL
  /-- `OR (HL)` (R117). -/
  | orIndHL
  /-- `OR A` (R117). -/
  | orA
  /-- `CP B` (R118). -/
  | cpB
  /-- `CP C` (R118). -/
  | cpC
  /-- `CP D` (R118). -/
  | cpD
  /-- `CP E` (R118). -/
  | cpE
  /-- `CP H` (R118). -/
  | cpH
  /-- `CP L` (R118). -/
  | cpL
  /-- `CP (HL)` (R118). -/
  | cpIndHL
  /-- `CP A` (R118). -/
  | cpA
  /-- `RET NZ` (R181). -/
  | retNZ
  /-- `RET Z` (R181). -/
  | retZ
  /-- `RET NC` (R181). -/
  | retNC
  /-- `RET C` (R181). -/
  | retC
  /-- `RET PO` (R181). -/
  | retPO
  /-- `RET PE` (R181). -/
  | retPE
  /-- `RET P` (R181). -/
  | retP
  /-- `RET M` (R181). -/
  | retM
  /-- `RET` (R180). -/
  | ret
  /-- `RST 0x00` (R182). -/
  | rst00
  /-- `RST 0x08` (R182). -/
  | rst08
  /-- `RST 0x10` (R182). -/
  | rst10
  /-- `RST 0x18` (R182). -/
  | rst18
  /-- `RST 0x20` (R182). -/
  | rst20
  /-- `RST 0x28` (R182). -/
  | rst28
  /-- `RST 0x30` (R182). -/
  | rst30
  /-- `RST 0x38` (R182). -/
  | rst38
  /-- `POP BC` (R191). -/
  | popBC
  /-- `POP DE` (R191). -/
  | popDE
  /-- `POP HL` (R191). -/
  | popHL
  /-- `POP AF` (R191). -/
  | popAF
  /-- `PUSH BC` (R190). -/
  | pushBC
  /-- `PUSH DE` (R190). -/
  | pushDE
  /-- `PUSH HL` (R190). -/
  | pushHL
  /-- `PUSH AF` (R190). -/
  | pushAF
  /-- `EX (SP),HL` (R194). -/
  | exSPHL
  /-- `RLC B` (R145). -/
  | rlcB
  /-- `RLC C` (R145). -/
  | rlcC
  /-- `RLC D` (R145). -/
  | rlcD
  /-- `RLC E` (R145). -/
  | rlcE
  /-- `RLC H` (R145). -/
  | rlcH
  /-- `RLC L` (R145). -/
  | rlcL
  /-- `RLC (HL)` (R145). -/
  | rlcIndHL
  /-- `RLC A` (R145). -/
  | rlcA
  /-- `RRC B` (R146). -/
  | rrcB
  /-- `RRC C` (R146). -/
  | rrcC
  /-- `RRC D` (R146). -/
  | rrcD
  /-- `RRC E` (R146). -/
  | rrcE
  /-- `RRC H` (R146). -/
  | rrcH
  /-- `RRC L` (R146). -/
  | rrcL
  /-- `RRC (HL)` (R146). -/
  | rrcIndHL
  /-- `RRC A` (R146). -/
  | rrcA
  /-- `RL B` (R147). -/
  | rlB
  /-- `RL C` (R147). -/
  | rlC
  /-- `RL D` (R147). -/
  | rlD
  /-- `RL E` (R147). -/
  | rlE
  /-- `RL H` (R147). -/
  | rlH
  /-- `RL L` (R147). -/
  | rlL
  /-- `RL (HL)` (R147). -/
  | rlIndHL
  /-- `RL A` (R147). -/
  | rlA
  /-- `RR B` (R148). -/
  | rrB
  /-- `RR C` (R148). -/
  | rrC
  /-- `RR D` (R148). -/
  | rrD
  /-- `RR E` (R148). -/
  | rrE
  /-- `RR H` (R148). -/
  | rrH
  /-- `RR L` (R148). -/
  | rrL
  /-- `RR (HL)` (R148). -/
  | rrIndHL
  /-- `RR A` (R148). -/
  | rrA
  /-- `SLA B` (R149). -/
  | slaB
  /-- `SLA C` (R149). -/
  | slaC
  /-- `SLA D` (R149). -/
  | slaD
  /-- `SLA E` (R149). -/
  | slaE
  /-- `SLA H` (R149). -/
  | slaH
  /-- `SLA L` (R149). -/
  | slaL
  /-- `SLA (HL)` (R149). -/
  | slaIndHL
  /-- `SLA A` (R149). -/
  | slaA
  /-- `SRA B` (R150). -/
  | sraB
  /-- `SRA C` (R150). -/
  | sraC
  /-- `SRA D` (R150). -/
  | sraD
  /-- `SRA E` (R150). -/
  | sraE
  /-- `SRA H` (R150). -/
  | sraH
  /-- `SRA L` (R150). -/
  | sraL
  /-- `SRA (HL)` (R150). -/
  | sraIndHL
  /-- `SRA A` (R150). -/
  | sraA
  /-- `SLL B` (R151). -/
  | sllB
  /-- `SLL C` (R151). -/
  | sllC
  /-- `SLL D` (R151). -/
  | sllD
  /-- `SLL E` (R151). -/
  | sllE
  /-- `SLL H` (R151). -/
  | sllH
  /-- `SLL L` (R151). -/
  | sllL
  /-- `SLL (HL)` (R151). -/
  | sllIndHL
  /-- `SLL A` (R151). -/
  | sllA
  /-- `SRL B` (R152). -/
  | srlB
  /-- `SRL C` (R152). -/
  | srlC
  /-- `SRL D` (R152). -/
  | srlD
  /-- `SRL E` (R152). -/
  | srlE
  /-- `SRL H` (R152). -/
  | srlH
  /-- `SRL L` (R152). -/
  | srlL
  /-- `SRL (HL)` (R152). -/
  | srlIndHL
  /-- `SRL A` (R152). -/
  | srlA
  /-- `SBC HL,BC` (R167). -/
  | sbcHLBC
  /-- `SBC HL,DE` (R167). -/
  | sbcHLDE
  /-- `SBC HL,HL` (R167). -/
  | sbcHLHL
  /-- `SBC HL,SP` (R167). -/
  | sbcHLSP
  /-- `ADC HL,BC` (R166). -/
  | adcHLBC
  /-- `ADC HL,DE` (R166). -/
  | adcHLDE
  /-- `ADC HL,HL` (R166). -/
  | adcHLHL
  /-- `ADC HL,SP` (R166). -/
  | adcHLSP
  /-- `ADD IX,BC` (R168). -/
  | addIXBC
  /-- `ADD IX,DE` (R168). -/
  | addIXDE
  /-- `ADD IX,IX` (R168). -/
  | addIXIX
  /-- `ADD IX,SP` (R168). -/
  | addIXSP
  /-- `ADD IY,BC` (R169). -/
  | addIYBC
  /-- `ADD IY,DE` (R169). -/
  | addIYDE
  /-- `ADD IY,IY` (R169). -/
  | addIYIY
  /-- `ADD IY,SP` (R169). -/
  | addIYSP
  /-- `INC IX` (R132). -/
  | incIX
  /-- `DEC IX` (R133). -/
  | decIX
  /-- `INC IY` (R132). -/
  | incIY
  /-- `DEC IY` (R133). -/
  | decIY
  /-- `POP IX` (R193). -/
  | popIX
  /-- `PUSH IX` (R192). -/
  | pushIX
  /-- `POP IY` (R193). -/
  | popIY
  /-- `PUSH IY` (R192). -/
  | pushIY
  /-- `EX (SP),IX` (R195). -/
  | exSPIX
  /-- `EX (SP),IY` (R195). -/
  | exSPIY
deriving DecidableEq, Repr

end Sys2Proof
end

