-- ==== Sys2Proof/Machine/Flags.lean ====
section
/-! DEFINITION. The flag functions and the ALU primitives (40_flags_and_alu_primitives.md), the packed
flag byte (10_state.md R27) and the conditions (46 R175). The operand width `w` is 8 or 16; operands
are turned into integers, the exact result is computed, and narrowed once. -/

namespace Sys2Proof.Machine

/-! ### Flag functions (40 §1) -/

/-- `zero_W` (R90). -/
def zeroFlag {w : Nat} (r : BitVec w) : Bool := r == 0#w

/-- `sign_W` (R91), a bit test. -/
def signFlag {w : Nat} (r : BitVec w) : Bool := r.msb

/-- The number of one-bits in the low 8 bits. -/
def onesLow8 {w : Nat} (r : BitVec w) : Nat :=
  (r.getLsbD 0).toNat + (r.getLsbD 1).toNat + (r.getLsbD 2).toNat + (r.getLsbD 3).toNat +
    (r.getLsbD 4).toNat + (r.getLsbD 5).toNat + (r.getLsbD 6).toNat + (r.getLsbD 7).toNat

/-- `parity8` (R92): the number of one-bits in the low 8 bits is even. -/
def parity8 {w : Nat} (r : BitVec w) : Bool := onesLow8 r % 2 == 0

/-- `carry_add_W` (R93). -/
def carryAdd {w : Nat} (a b : BitVec w) (cin : Bool) : Bool :=
  decide (a.toNat + b.toNat + cin.toNat > 2 ^ w - 1)

/-- `borrow_sub_W` (R94), over the integers. -/
def borrowSub {w : Nat} (a b : BitVec w) (bin : Bool) : Bool :=
  decide ((a.toNat : Int) - b.toNat - bin.toNat < 0)

/-- The part of an operand below the half-carry boundary: bits 3 to 0 of a byte, bits 11 to 0 of a
word (R95, 90_conflicts.md C8). -/
def lowPart {w : Nat} (a : BitVec w) : Nat := a.toNat % 2 ^ (w - 4)

/-- `half_add_W` (R95). -/
def halfAdd {w : Nat} (a b : BitVec w) (cin : Bool) : Bool :=
  decide ((lowPart a + lowPart b + cin.toNat) / 2 ^ (w - 4) % 2 ≠ 0)

/-- `half_sub_W` (R96), the same under every policy. -/
def halfSub {w : Nat} (a b : BitVec w) (bin : Bool) : Bool :=
  decide ((lowPart a : Int) - lowPart b - bin.toNat < 0)

/-- `ovf_add_W` (R97). -/
def overflowAdd {w : Nat} (a b r : BitVec w) : Bool := (a.msb == b.msb) && (r.msb != a.msb)

/-- `ovf_sub_W` (R98). -/
def overflowSub {w : Nat} (a b r : BitVec w) : Bool := (a.msb != b.msb) && (r.msb != a.msb)

/-- A write of `f.N`; nothing under `I8080`, where the flag does not exist (R99, 10_state.md R26). -/
def Flags.setN (p : Policy) (b : Bool) (f : Flags) : Flags :=
  match p with
  | .z80 => { f with n := b }
  | .i8080 => f

/-- `xy(v)`; nothing under `I8080` (R100). -/
def Flags.setXY (p : Policy) (v : Byte) (f : Flags) : Flags :=
  match p with
  | .z80 => { f with f5 := v.getLsbD 5, f3 := v.getLsbD 3 }
  | .i8080 => f

/-- The shared bit after arithmetic: signed overflow under `Z80`, parity under `I8080` (R92, R106). -/
def arithPV {w : Nat} (p : Policy) (overflow : Bool) (r : BitVec w) : Bool :=
  match p with
  | .z80 => overflow
  | .i8080 => parity8 r

/-! ### ALU primitives (40 §2) -/

/-- `alu_add_W` (R102): the wrapped sum and the flags. -/
def aluAdd {w : Nat} (p : Policy) (a b : BitVec w) (cin : Bool) (f : Flags) : BitVec w × Flags :=
  let r := BitVec.ofNat w (a.toNat + b.toNat + cin.toNat)
  (r, Flags.setN p false
    { f with
      c := carryAdd a b cin
      h := halfAdd a b cin
      z := zeroFlag r
      s := signFlag r
      pv := arithPV p (overflowAdd a b r) r })

/-- `alu_sub_W` (R103): the wrapped difference and the flags. -/
def aluSub {w : Nat} (p : Policy) (a b : BitVec w) (bin : Bool) (f : Flags) : BitVec w × Flags :=
  let r := BitVec.ofInt w ((a.toNat : Int) - b.toNat - bin.toNat)
  (r, Flags.setN p true
    { f with
      c := borrowSub a b bin
      h := halfSub a b bin
      z := zeroFlag r
      s := signFlag r
      pv := arithPV p (overflowSub a b r) r })

/-- The flag tail that the three logical operations share, with the half-carry given (R104). -/
def logicFlags (p : Policy) (r : Byte) (half : Bool) (f : Flags) : Flags :=
  Flags.setN p false
    { f with
      c := false
      h := half
      z := zeroFlag r
      s := signFlag r
      pv := parity8 r }

/-- `alu_logic(AND, a, b)` (R104): half-carry is 1 under `Z80`, bit 3 of (a or b) under `I8080`. -/
def aluAnd (p : Policy) (a b : Byte) (f : Flags) : Byte × Flags :=
  let half := match p with
    | .z80 => true
    | .i8080 => (a ||| b).getLsbD 3
  (a &&& b, logicFlags p (a &&& b) half f)

/-- `alu_logic(XOR, a, b)` (R104). -/
def aluXor (p : Policy) (a b : Byte) (f : Flags) : Byte × Flags :=
  (a ^^^ b, logicFlags p (a ^^^ b) false f)

/-- `alu_logic(OR, a, b)` (R104). -/
def aluOr (p : Policy) (a b : Byte) (f : Flags) : Byte × Flags :=
  (a ||| b, logicFlags p (a ||| b) false f)

/-- The flags of CP: those of SUB, and on `Z80` bits 5 and 3 of the operand (41 R118). -/
def compareFlags (p : Policy) (a v : Byte) (f : Flags) : Flags :=
  Flags.setXY p v (aluSub p a v false f).2

/-- INC m: the value and the flags it writes; carry is kept (42 R130). -/
def aluInc (p : Policy) (m : Byte) (f : Flags) : Byte × Flags :=
  let v := m + 1#8
  (v, Flags.setN p false
    { f with
      h := halfAdd m 1#8 false
      z := zeroFlag v
      s := signFlag v
      pv := arithPV p (overflowAdd m 1#8 v) v })

/-- DEC m: the value and the flags it writes; carry is kept (42 R131). -/
def aluDec (p : Policy) (m : Byte) (f : Flags) : Byte × Flags :=
  let v := m - 1#8
  (v, Flags.setN p true
    { f with
      h := halfSub m 1#8 false
      z := zeroFlag v
      s := signFlag v
      pv := arithPV p (overflowSub m 1#8 v) v })

/-- The 16-bit addition without carry-in: `f.C` always, `f.H` and `f.N` under `Z80` only, the other
flags never (45 R165, R168, R169). -/
def aluAddPair (p : Policy) (a b : Word) (f : Flags) : Word × Flags :=
  let f' := { f with c := carryAdd a b false }
  (a + b,
    match p with
    | .z80 => { f' with h := halfAdd a b false, n := false }
    | .i8080 => f')

/-! ### Rotates and shifts (43 §1) -/

/-- One bit position moved: the result and the bit that left, with `cin` the carry before (43 R140,
R145 to R152; the fill bits of the shifts are D9). -/
def rotateByte (op : RotOp) (m : Byte) (cin : Bool) : Byte × Bool :=
  let top := m.getLsbD 7
  let low := m.getLsbD 0
  match op with
  | .rlc => ((m <<< 1) ||| BitVec.ofNat 8 top.toNat, top)
  | .rrc => ((m >>> 1) ||| (BitVec.ofNat 8 low.toNat <<< 7), low)
  | .rl => ((m <<< 1) ||| BitVec.ofNat 8 cin.toNat, top)
  | .rr => ((m >>> 1) ||| (BitVec.ofNat 8 cin.toNat <<< 7), low)
  | .sla => (m <<< 1, top)
  | .sra => ((m >>> 1) ||| (m &&& 0x80#8), low)
  | .sll => ((m <<< 1) ||| 1#8, top)
  | .srl => (m >>> 1, low)

/-- `flags_rot_a(v, c)` (43 R140): Z, S and PV are kept. -/
def Flags.rotA (p : Policy) (v : Byte) (out : Bool) (f : Flags) : Flags :=
  Flags.setXY p v (Flags.setN p false { f with c := out, h := false })

/-- `flags_rot(v, c)` (43 R140). -/
def Flags.rot (p : Policy) (v : Byte) (out : Bool) (f : Flags) : Flags :=
  { Flags.rotA p v out f with z := zeroFlag v, s := signFlag v, pv := parity8 v }

/-! ### The packed flag byte (10_state.md R27) -/

/-- `to_u8`: `Z80` S Z F5 H F3 PV N C; `I8080` S Z 0 AC 0 P 1 C, bit 7 first. -/
def Flags.toByte (p : Policy) (f : Flags) : Byte :=
  let bits (f5 f3 n : Bool) : Byte :=
    BitVec.ofNat 8 (128 * f.s.toNat + 64 * f.z.toNat + 32 * f5.toNat + 16 * f.h.toNat +
      8 * f3.toNat + 4 * f.pv.toNat + 2 * n.toNat + f.c.toNat)
  match p with
  | .z80 => bits f.f5 f.f3 f.n
  | .i8080 => bits false false true

/-- `from_u8`: under `I8080` bits 5, 3 and 1 are ignored (90_conflicts.md C5). -/
def Flags.ofByte (p : Policy) (b : Byte) (f : Flags) : Flags :=
  let f' := { f with
    s := b.getLsbD 7, z := b.getLsbD 6, h := b.getLsbD 4, pv := b.getLsbD 2, c := b.getLsbD 0 }
  match p with
  | .z80 => { f' with f5 := b.getLsbD 5, f3 := b.getLsbD 3, n := b.getLsbD 1 }
  | .i8080 => f'

/-! ### Conditions (46 R175) -/

/-- `cond(cc)`: one flag, read only. -/
def Flags.holds (f : Flags) : Cond → Bool
  | .nz => !f.z
  | .z => f.z
  | .nc => !f.c
  | .c => f.c
  | .po => !f.pv
  | .pe => f.pv
  | .p => !f.s
  | .m => f.s

end Sys2Proof.Machine
end

