-- ==== Sys2Proof/WellFormed.lean ====
section
/-! DEFINITION. Which instructions exist under a policy (30_encoding.md R81). Operands need no check
of their own: every operand type of `Instr` has exactly the width of its field (R70, R78). -/

namespace Sys2Proof

/-- The rows that only `Z80` admits: the prefixed formats (30_encoding.md R70, R81). -/
def Instr.z80Only : Instr → Bool
  | .rlcB | .rlcC | .rlcD | .rlcE | .rlcH | .rlcL | .rlcIndHL | .rlcA | .rrcB | .rrcC | .rrcD
  | .rrcE | .rrcH | .rrcL | .rrcIndHL | .rrcA | .rlB | .rlC | .rlD | .rlE | .rlH | .rlL | .rlIndHL
  | .rlA | .rrB | .rrC | .rrD | .rrE | .rrH | .rrL | .rrIndHL | .rrA | .slaB | .slaC | .slaD | .slaE
  | .slaH | .slaL | .slaIndHL | .slaA | .sraB | .sraC | .sraD | .sraE | .sraH | .sraL | .sraIndHL
  | .sraA | .sllB | .sllC | .sllD | .sllE | .sllH | .sllL | .sllIndHL | .sllA | .srlB | .srlC
  | .srlD | .srlE | .srlH | .srlL | .srlIndHL | .srlA | .sbcHLBC | .sbcHLDE | .sbcHLHL | .sbcHLSP
  | .adcHLBC | .adcHLDE | .adcHLHL | .adcHLSP | .addIXBC | .addIXDE | .addIXIX | .addIXSP | .addIYBC
  | .addIYDE | .addIYIY | .addIYSP | .incIX | .decIX | .incIY | .decIY | .incIndIX _ | .decIndIX _
  | .incIndIY _ | .decIndIY _ | .addAIndIX _ | .adcAIndIX _ | .subIndIX _ | .sbcAIndIX _
  | .andIndIX _ | .xorIndIX _ | .orIndIX _ | .cpIndIX _ | .addAIndIY _ | .adcAIndIY _ | .subIndIY _
  | .sbcAIndIY _ | .andIndIY _ | .xorIndIY _ | .orIndIY _ | .cpIndIY _ | .popIX | .pushIX | .popIY
  | .pushIY | .exSPIX | .exSPIY | .rlcIndIX _ | .rrcIndIX _ | .rlIndIX _ | .rrIndIX _ | .slaIndIX _
  | .sraIndIX _ | .sllIndIX _ | .srlIndIX _ | .rlcIndIY _ | .rrcIndIY _ | .rlIndIY _ | .rrIndIY _
  | .slaIndIY _ | .sraIndIY _ | .sllIndIY _ | .srlIndIY _ => true
  | .incBC | .incDE | .incHL | .incSP | .decBC | .decDE | .decHL | .decSP | .incB | .incC | .incD
  | .incE | .incH | .incL | .incIndHL | .incA | .decB | .decC | .decD | .decE | .decH | .decL
  | .decIndHL | .decA | .rlca | .rrca | .rla | .rra | .addHLBC | .addHLDE | .addHLHL | .addHLSP
  | .daa | .halt | .addAB | .addAC | .addAD | .addAE | .addAH | .addAL | .addAIndHL | .addAA
  | .adcAB | .adcAC | .adcAD | .adcAE | .adcAH | .adcAL | .adcAIndHL | .adcAA | .subB | .subC
  | .subD | .subE | .subH | .subL | .subIndHL | .subA | .sbcAB | .sbcAC | .sbcAD | .sbcAE | .sbcAH
  | .sbcAL | .sbcAIndHL | .sbcAA | .andB | .andC | .andD | .andE | .andH | .andL | .andIndHL | .andA
  | .xorB | .xorC | .xorD | .xorE | .xorH | .xorL | .xorIndHL | .xorA | .orB | .orC | .orD | .orE
  | .orH | .orL | .orIndHL | .orA | .cpB | .cpC | .cpD | .cpE | .cpH | .cpL | .cpIndHL | .cpA
  | .addAImm _ | .adcAImm _ | .subImm _ | .sbcAImm _ | .andImm _ | .xorImm _ | .orImm _ | .cpImm _
  | .retNZ | .retZ | .retNC | .retC | .retPO | .retPE | .retP | .retM | .ret | .jpNZ _ | .jpZ _
  | .jpNC _ | .jpC _ | .jpPO _ | .jpPE _ | .jpP _ | .jpM _ | .jp _ | .callNZ _ | .callZ _
  | .callNC _ | .callC _ | .callPO _ | .callPE _ | .callP _ | .callM _ | .call _ | .rst00 | .rst08
  | .rst10 | .rst18 | .rst20 | .rst28 | .rst30 | .rst38 | .popBC | .popDE | .popHL | .popAF
  | .pushBC | .pushDE | .pushHL | .pushAF | .exSPHL => false

/-- `i` is an instruction of a block configured with policy `p` (30_encoding.md R81). -/
def Instr.wf (p : Policy) (i : Instr) : Bool :=
  match p with
  | .z80 => true
  | .i8080 => !i.z80Only

/-- The operand form exists under `p`: the indexed forms are `Z80` only (41 R110, 42 §1, 43 R140). -/
def Place8.wf (p : Policy) : Place8 → Bool
  | .reg _ | .indHL => true
  | .indIX _ | .indIY _ => p == .z80

/-- The source form exists under `p` (41 R110). -/
def Src8.wf (p : Policy) : Src8 → Bool
  | .loc m => m.wf p
  | .imm _ => true

/-- The 16-bit operand of INC and DEC exists under `p` (42 §2). -/
def Pair16.wf (p : Policy) : Pair16 → Bool
  | .bc | .de | .hl | .sp => true
  | .ix | .iy => p == .z80

/-- The stack operand exists under `p` (47 R190 to R193). -/
def StackReg.wf (p : Policy) : StackReg → Bool
  | .bc | .de | .hl | .af => true
  | .ix | .iy => p == .z80

/-- The 16-bit destination exists under `p` (45 R165, R168, R169; 47 R194, R195). -/
def Base16.wf (p : Policy) : Base16 → Bool
  | .hl => true
  | .ix | .iy => p == .z80

end Sys2Proof
end

