-- ==== Sys2Proof/Decode.lean ====
section
/-! DEFINITION. Decoding and encoding (30_encoding.md). The decoder reads the fields of R71 with the field
tables R72 to R77; the encoder writes the bytes of R80 row by row. Every byte value is the spec's own
choice of the published encodings (D2; log 12). -/

namespace Sys2Proof

/-- `hi8(w)` = `w[15:8]` (00_scope.md R11). -/
def hi8 (w : Word) : Byte := w.extractLsb' 8 8

/-- `lo8(w)` = `w[7:0]` (00_scope.md R11). -/
def lo8 (w : Word) : Byte := w.extractLsb' 0 8

/-- `hi:lo`, concatenation of two bytes (00_scope.md R11). -/
def wordOf (hi lo : Byte) : Word := hi ++ lo

/-! ### The fields of an opcode byte (30_encoding.md R71) -/

/-- `x = byte[7:6]`. -/
def fieldX (b : Byte) : Fin 4 := Fin.ofNat 4 (b.toNat / 64)

/-- `y = byte[5:3]`. -/
def fieldY (b : Byte) : Fin 8 := Fin.ofNat 8 (b.toNat / 8)

/-- `z = byte[2:0]`. -/
def fieldZ (b : Byte) : Fin 8 := Fin.ofNat 8 b.toNat

/-- `p = byte[5:4]`. -/
def fieldP (b : Byte) : Fin 4 := Fin.ofNat 4 (b.toNat / 16)

/-- `q = byte[3]`. -/
def fieldQ (b : Byte) : Fin 2 := Fin.ofNat 2 (b.toNat / 8)

/-- The register field r; value 6 is the memory operand `(HL)` (R72). -/
def placeField : Fin 8 → Place8
  | 0 => .reg .b
  | 1 => .reg .c
  | 2 => .reg .d
  | 3 => .reg .e
  | 4 => .reg .h
  | 5 => .reg .l
  | 6 => .indHL
  | 7 => .reg .a

/-- The pair field ss, pp or rr of the 16-bit additions (R73). -/
def ssField : Fin 4 → Ss
  | 0 => .bc
  | 1 => .de
  | 2 => .own
  | 3 => .sp

/-- The pair field ss of INC and DEC (R73). -/
def pairField : Fin 4 → Pair16
  | 0 => .bc
  | 1 => .de
  | 2 => .hl
  | 3 => .sp

/-- The pair field qq of PUSH and POP (R73). -/
def stackField : Fin 4 → StackReg
  | 0 => .bc
  | 1 => .de
  | 2 => .hl
  | 3 => .af

/-- The condition field cc (R74). -/
def condField : Fin 8 → Cond
  | 0 => .nz
  | 1 => .z
  | 2 => .nc
  | 3 => .c
  | 4 => .po
  | 5 => .pe
  | 6 => .p
  | 7 => .m

/-- The ALU operation field o (R75). -/
def aluField : Fin 8 → AluOp
  | 0 => .add
  | 1 => .adc
  | 2 => .sub
  | 3 => .sbc
  | 4 => .and
  | 5 => .xor
  | 6 => .or
  | 7 => .cp

/-- The rotate and shift field k (R76). -/
def rotField : Fin 8 → RotOp
  | 0 => .rlc
  | 1 => .rrc
  | 2 => .rl
  | 3 => .rr
  | 4 => .sla
  | 5 => .sra
  | 6 => .sll
  | 7 => .srl

/-! ### From an operation and its operands to the row -/

/-- The row of the operation and operand of the 8-bit ALU family (30_encoding.md R75, 41 R110). -/
def Instr.alu : AluOp → Src8 → Instr
  | .add, .loc (.reg .b) => .addAB
  | .add, .loc (.reg .c) => .addAC
  | .add, .loc (.reg .d) => .addAD
  | .add, .loc (.reg .e) => .addAE
  | .add, .loc (.reg .h) => .addAH
  | .add, .loc (.reg .l) => .addAL
  | .add, .loc (.reg .a) => .addAA
  | .add, .loc .indHL => .addAIndHL
  | .add, .loc (.indIX d) => .addAIndIX d
  | .add, .loc (.indIY d) => .addAIndIY d
  | .add, .imm n => .addAImm n
  | .adc, .loc (.reg .b) => .adcAB
  | .adc, .loc (.reg .c) => .adcAC
  | .adc, .loc (.reg .d) => .adcAD
  | .adc, .loc (.reg .e) => .adcAE
  | .adc, .loc (.reg .h) => .adcAH
  | .adc, .loc (.reg .l) => .adcAL
  | .adc, .loc (.reg .a) => .adcAA
  | .adc, .loc .indHL => .adcAIndHL
  | .adc, .loc (.indIX d) => .adcAIndIX d
  | .adc, .loc (.indIY d) => .adcAIndIY d
  | .adc, .imm n => .adcAImm n
  | .sub, .loc (.reg .b) => .subB
  | .sub, .loc (.reg .c) => .subC
  | .sub, .loc (.reg .d) => .subD
  | .sub, .loc (.reg .e) => .subE
  | .sub, .loc (.reg .h) => .subH
  | .sub, .loc (.reg .l) => .subL
  | .sub, .loc (.reg .a) => .subA
  | .sub, .loc .indHL => .subIndHL
  | .sub, .loc (.indIX d) => .subIndIX d
  | .sub, .loc (.indIY d) => .subIndIY d
  | .sub, .imm n => .subImm n
  | .sbc, .loc (.reg .b) => .sbcAB
  | .sbc, .loc (.reg .c) => .sbcAC
  | .sbc, .loc (.reg .d) => .sbcAD
  | .sbc, .loc (.reg .e) => .sbcAE
  | .sbc, .loc (.reg .h) => .sbcAH
  | .sbc, .loc (.reg .l) => .sbcAL
  | .sbc, .loc (.reg .a) => .sbcAA
  | .sbc, .loc .indHL => .sbcAIndHL
  | .sbc, .loc (.indIX d) => .sbcAIndIX d
  | .sbc, .loc (.indIY d) => .sbcAIndIY d
  | .sbc, .imm n => .sbcAImm n
  | .and, .loc (.reg .b) => .andB
  | .and, .loc (.reg .c) => .andC
  | .and, .loc (.reg .d) => .andD
  | .and, .loc (.reg .e) => .andE
  | .and, .loc (.reg .h) => .andH
  | .and, .loc (.reg .l) => .andL
  | .and, .loc (.reg .a) => .andA
  | .and, .loc .indHL => .andIndHL
  | .and, .loc (.indIX d) => .andIndIX d
  | .and, .loc (.indIY d) => .andIndIY d
  | .and, .imm n => .andImm n
  | .xor, .loc (.reg .b) => .xorB
  | .xor, .loc (.reg .c) => .xorC
  | .xor, .loc (.reg .d) => .xorD
  | .xor, .loc (.reg .e) => .xorE
  | .xor, .loc (.reg .h) => .xorH
  | .xor, .loc (.reg .l) => .xorL
  | .xor, .loc (.reg .a) => .xorA
  | .xor, .loc .indHL => .xorIndHL
  | .xor, .loc (.indIX d) => .xorIndIX d
  | .xor, .loc (.indIY d) => .xorIndIY d
  | .xor, .imm n => .xorImm n
  | .or, .loc (.reg .b) => .orB
  | .or, .loc (.reg .c) => .orC
  | .or, .loc (.reg .d) => .orD
  | .or, .loc (.reg .e) => .orE
  | .or, .loc (.reg .h) => .orH
  | .or, .loc (.reg .l) => .orL
  | .or, .loc (.reg .a) => .orA
  | .or, .loc .indHL => .orIndHL
  | .or, .loc (.indIX d) => .orIndIX d
  | .or, .loc (.indIY d) => .orIndIY d
  | .or, .imm n => .orImm n
  | .cp, .loc (.reg .b) => .cpB
  | .cp, .loc (.reg .c) => .cpC
  | .cp, .loc (.reg .d) => .cpD
  | .cp, .loc (.reg .e) => .cpE
  | .cp, .loc (.reg .h) => .cpH
  | .cp, .loc (.reg .l) => .cpL
  | .cp, .loc (.reg .a) => .cpA
  | .cp, .loc .indHL => .cpIndHL
  | .cp, .loc (.indIX d) => .cpIndIX d
  | .cp, .loc (.indIY d) => .cpIndIY d
  | .cp, .imm n => .cpImm n

/-- The row of INC m (42 R130). -/
def Instr.inc8 : Place8 → Instr
  | .reg .b => .incB
  | .reg .c => .incC
  | .reg .d => .incD
  | .reg .e => .incE
  | .reg .h => .incH
  | .reg .l => .incL
  | .reg .a => .incA
  | .indHL => .incIndHL
  | .indIX d => .incIndIX d
  | .indIY d => .incIndIY d

/-- The row of DEC m (42 R131). -/
def Instr.dec8 : Place8 → Instr
  | .reg .b => .decB
  | .reg .c => .decC
  | .reg .d => .decD
  | .reg .e => .decE
  | .reg .h => .decH
  | .reg .l => .decL
  | .reg .a => .decA
  | .indHL => .decIndHL
  | .indIX d => .decIndIX d
  | .indIY d => .decIndIY d

/-- The row of the prefixed rotates and shifts (30_encoding.md R76, 43 R140). -/
def Instr.rot : RotOp → Place8 → Instr
  | .rlc, .reg .b => .rlcB
  | .rlc, .reg .c => .rlcC
  | .rlc, .reg .d => .rlcD
  | .rlc, .reg .e => .rlcE
  | .rlc, .reg .h => .rlcH
  | .rlc, .reg .l => .rlcL
  | .rlc, .reg .a => .rlcA
  | .rlc, .indHL => .rlcIndHL
  | .rlc, .indIX d => .rlcIndIX d
  | .rlc, .indIY d => .rlcIndIY d
  | .rrc, .reg .b => .rrcB
  | .rrc, .reg .c => .rrcC
  | .rrc, .reg .d => .rrcD
  | .rrc, .reg .e => .rrcE
  | .rrc, .reg .h => .rrcH
  | .rrc, .reg .l => .rrcL
  | .rrc, .reg .a => .rrcA
  | .rrc, .indHL => .rrcIndHL
  | .rrc, .indIX d => .rrcIndIX d
  | .rrc, .indIY d => .rrcIndIY d
  | .rl, .reg .b => .rlB
  | .rl, .reg .c => .rlC
  | .rl, .reg .d => .rlD
  | .rl, .reg .e => .rlE
  | .rl, .reg .h => .rlH
  | .rl, .reg .l => .rlL
  | .rl, .reg .a => .rlA
  | .rl, .indHL => .rlIndHL
  | .rl, .indIX d => .rlIndIX d
  | .rl, .indIY d => .rlIndIY d
  | .rr, .reg .b => .rrB
  | .rr, .reg .c => .rrC
  | .rr, .reg .d => .rrD
  | .rr, .reg .e => .rrE
  | .rr, .reg .h => .rrH
  | .rr, .reg .l => .rrL
  | .rr, .reg .a => .rrA
  | .rr, .indHL => .rrIndHL
  | .rr, .indIX d => .rrIndIX d
  | .rr, .indIY d => .rrIndIY d
  | .sla, .reg .b => .slaB
  | .sla, .reg .c => .slaC
  | .sla, .reg .d => .slaD
  | .sla, .reg .e => .slaE
  | .sla, .reg .h => .slaH
  | .sla, .reg .l => .slaL
  | .sla, .reg .a => .slaA
  | .sla, .indHL => .slaIndHL
  | .sla, .indIX d => .slaIndIX d
  | .sla, .indIY d => .slaIndIY d
  | .sra, .reg .b => .sraB
  | .sra, .reg .c => .sraC
  | .sra, .reg .d => .sraD
  | .sra, .reg .e => .sraE
  | .sra, .reg .h => .sraH
  | .sra, .reg .l => .sraL
  | .sra, .reg .a => .sraA
  | .sra, .indHL => .sraIndHL
  | .sra, .indIX d => .sraIndIX d
  | .sra, .indIY d => .sraIndIY d
  | .sll, .reg .b => .sllB
  | .sll, .reg .c => .sllC
  | .sll, .reg .d => .sllD
  | .sll, .reg .e => .sllE
  | .sll, .reg .h => .sllH
  | .sll, .reg .l => .sllL
  | .sll, .reg .a => .sllA
  | .sll, .indHL => .sllIndHL
  | .sll, .indIX d => .sllIndIX d
  | .sll, .indIY d => .sllIndIY d
  | .srl, .reg .b => .srlB
  | .srl, .reg .c => .srlC
  | .srl, .reg .d => .srlD
  | .srl, .reg .e => .srlE
  | .srl, .reg .h => .srlH
  | .srl, .reg .l => .srlL
  | .srl, .reg .a => .srlA
  | .srl, .indHL => .srlIndHL
  | .srl, .indIX d => .srlIndIX d
  | .srl, .indIY d => .srlIndIY d

/-- The row of INC ss (42 R132). -/
def Instr.inc16 : Pair16 → Instr
  | .bc => .incBC
  | .de => .incDE
  | .hl => .incHL
  | .sp => .incSP
  | .ix => .incIX
  | .iy => .incIY

/-- The row of DEC ss (42 R133). -/
def Instr.dec16 : Pair16 → Instr
  | .bc => .decBC
  | .de => .decDE
  | .hl => .decHL
  | .sp => .decSP
  | .ix => .decIX
  | .iy => .decIY

/-- The row of ADD HL,ss, ADD IX,pp and ADD IY,rr (30_encoding.md R73, 45 R165, R168, R169). -/
def Instr.add16 : Base16 → Ss → Instr
  | .hl, .bc => .addHLBC
  | .hl, .de => .addHLDE
  | .hl, .own => .addHLHL
  | .hl, .sp => .addHLSP
  | .ix, .bc => .addIXBC
  | .ix, .de => .addIXDE
  | .ix, .own => .addIXIX
  | .ix, .sp => .addIXSP
  | .iy, .bc => .addIYBC
  | .iy, .de => .addIYDE
  | .iy, .own => .addIYIY
  | .iy, .sp => .addIYSP

/-- The row of ADC HL,ss (45 R166). -/
def Instr.adc16 : Ss → Instr
  | .bc => .adcHLBC
  | .de => .adcHLDE
  | .own => .adcHLHL
  | .sp => .adcHLSP

/-- The row of SBC HL,ss (45 R167). -/
def Instr.sbc16 : Ss → Instr
  | .bc => .sbcHLBC
  | .de => .sbcHLDE
  | .own => .sbcHLHL
  | .sp => .sbcHLSP

/-- The row of JP cc,nn (46 R177). -/
def Instr.jpCond : Cond → Word → Instr
  | .nz, nn => .jpNZ nn
  | .z, nn => .jpZ nn
  | .nc, nn => .jpNC nn
  | .c, nn => .jpC nn
  | .po, nn => .jpPO nn
  | .pe, nn => .jpPE nn
  | .p, nn => .jpP nn
  | .m, nn => .jpM nn

/-- The row of CALL cc,nn (46 R179). -/
def Instr.callCond : Cond → Word → Instr
  | .nz, nn => .callNZ nn
  | .z, nn => .callZ nn
  | .nc, nn => .callNC nn
  | .c, nn => .callC nn
  | .po, nn => .callPO nn
  | .pe, nn => .callPE nn
  | .p, nn => .callP nn
  | .m, nn => .callM nn

/-- The row of RET cc (46 R181). -/
def Instr.retCond : Cond → Instr
  | .nz => .retNZ
  | .z => .retZ
  | .nc => .retNC
  | .c => .retC
  | .po => .retPO
  | .pe => .retPE
  | .p => .retP
  | .m => .retM

/-- The row of RST t (30_encoding.md R77, 46 R182). -/
def Instr.rst : Fin 8 → Instr
  | 0 => .rst00
  | 1 => .rst08
  | 2 => .rst10
  | 3 => .rst18
  | 4 => .rst20
  | 5 => .rst28
  | 6 => .rst30
  | 7 => .rst38

/-- The row of PUSH (47 R190, R192). -/
def Instr.push : StackReg → Instr
  | .bc => .pushBC
  | .de => .pushDE
  | .hl => .pushHL
  | .af => .pushAF
  | .ix => .pushIX
  | .iy => .pushIY

/-- The row of POP (47 R191, R193). -/
def Instr.pop : StackReg → Instr
  | .bc => .popBC
  | .de => .popDE
  | .hl => .popHL
  | .af => .popAF
  | .ix => .popIX
  | .iy => .popIY

/-- The row of EX (SP),HL / IX / IY (47 R194, R195). -/
def Instr.exSP : Base16 → Instr
  | .hl => .exSPHL
  | .ix => .exSPIX
  | .iy => .exSPIY


/-! ### The decoder (30_encoding.md R79, R80) -/

/-- Why the decoder gives no instruction; each is a refusal of the bytes, none a neighbour's row (R82). -/
inductive Reject where
  /-- There is no byte to decode. -/
  | noByte
  /-- The bytes end inside an instruction. -/
  | truncated
  /-- No unprefixed row has this first byte under the policy. -/
  | unassignedOp (b0 : Byte)
  /-- No row `CB b1`. -/
  | unassignedCB (b1 : Byte)
  /-- No row `ED b1`. -/
  | unassignedED (b1 : Byte)
  /-- No row `DD b1` (`b0` = DD) or `FD b1` (`b0` = FD). -/
  | unassignedXY (b0 b1 : Byte)
  /-- No row `DD CB d b3` or `FD CB d b3`. -/
  | unassignedXYCB (b0 b3 : Byte)
deriving DecidableEq, Repr

/-- A row of one of the unprefixed formats, waiting for its immediate (R70). -/
inductive OpRow where
  | op (i : Instr)
  | opN (mk : Byte → Instr)
  | opNN (mk : Word → Instr)

/-- The unprefixed rows, by the layouts of R71. Everything not named there is unassigned (R82). -/
def opRow (b : Byte) : Option OpRow :=
  match fieldX b, fieldZ b with
  | 0, 1 => if fieldQ b = 1 then some (.op (.add16 .hl (ssField (fieldP b)))) else none
  | 0, 3 =>
    some (.op (if fieldQ b = 0 then .inc16 (pairField (fieldP b)) else .dec16 (pairField (fieldP b))))
  | 0, 4 => some (.op (.inc8 (placeField (fieldY b))))
  | 0, 5 => some (.op (.dec8 (placeField (fieldY b))))
  | 0, 7 =>
    match fieldY b with
    | 0 => some (.op .rlca)
    | 1 => some (.op .rrca)
    | 2 => some (.op .rla)
    | 3 => some (.op .rra)
    | 4 => some (.op .daa)
    | _ => none
  | 1, 6 => if fieldY b = 6 then some (.op .halt) else none
  | 2, z => some (.op (.alu (aluField (fieldY b)) (.loc (placeField z))))
  | 3, 0 => some (.op (.retCond (condField (fieldY b))))
  | 3, 1 =>
    if fieldQ b = 0 then some (.op (.pop (stackField (fieldP b))))
    else if fieldP b = 0 then some (.op .ret) else none
  | 3, 2 => some (.opNN (.jpCond (condField (fieldY b))))
  | 3, 3 =>
    match fieldY b with
    | 0 => some (.opNN .jp)
    | 4 => some (.op (.exSP .hl))
    | _ => none
  | 3, 4 => some (.opNN (.callCond (condField (fieldY b))))
  | 3, 5 =>
    if fieldQ b = 0 then some (.op (.push (stackField (fieldP b))))
    else if fieldP b = 0 then some (.opNN .call) else none
  | 3, 6 => some (.opN fun n => .alu (aluField (fieldY b)) (.imm n))
  | 3, 7 => some (.op (.rst (fieldY b)))
  | _, _ => none

/-- Formats `OP`, `OP_N`, `OP_NN` (R70, R78). -/
def decodeOp (b0 : Byte) (rest : List Byte) : Except Reject (Instr × List Byte) :=
  match opRow b0, rest with
  | some (.op i), r => .ok (i, r)
  | some (.opN mk), n :: r => .ok (mk n, r)
  | some (.opNN mk), lo :: hi :: r => .ok (mk (wordOf hi lo), r)
  | some _, _ => .error .truncated
  | none, _ => .error (.unassignedOp b0)

/-- Format `CB_OP`, after the byte CB: `00 kkk rrr` (R71). -/
def decodeCB : List Byte → Except Reject (Instr × List Byte)
  | [] => .error .truncated
  | b1 :: r =>
    if fieldX b1 = 0 then .ok (.rot (rotField (fieldY b1)) (placeField (fieldZ b1)), r)
    else .error (.unassignedCB b1)

/-- Format `ED_OP`, after the byte ED: `01 ss 0 010` and `01 ss 1 010` (R71). -/
def decodeED : List Byte → Except Reject (Instr × List Byte)
  | [] => .error .truncated
  | b1 :: r =>
    if fieldX b1 = 1 ∧ fieldZ b1 = 2 then
      .ok (if fieldQ b1 = 0 then .sbc16 (ssField (fieldP b1)) else .adc16 (ssField (fieldP b1)), r)
    else .error (.unassignedED b1)

/-- The index register a prefixed row names: IX after DD, IY after FD (R70). -/
inductive Index where
  | ix | iy
deriving DecidableEq, Repr

/-- The byte that selects the index register (R70). -/
def Index.byte : Index → Byte
  | .ix => 0xDD#8
  | .iy => 0xFD#8

/-- The index register as a 16-bit destination. -/
def Index.base : Index → Base16
  | .ix => .ix
  | .iy => .iy

/-- The index register as an operand of INC and DEC. -/
def Index.pair : Index → Pair16
  | .ix => .ix
  | .iy => .iy

/-- The index register as an operand of PUSH and POP. -/
def Index.stack : Index → StackReg
  | .ix => .ix
  | .iy => .iy

/-- The memory operand at index plus displacement (R78). -/
def Index.ind : Index → Byte → Place8
  | .ix, d => .indIX d
  | .iy, d => .indIY d

/-- A row of format `XY_OP` or `XY_OP_D` (R70). -/
inductive XyRow where
  | op (i : Instr)
  | opD (mk : Byte → Instr)

/-- The rows after DD or FD that have no second CB byte (R71, R80). -/
def xyRow (k : Index) (b1 : Byte) : Option XyRow :=
  match fieldX b1, fieldY b1, fieldZ b1 with
  | 0, 4, 3 => some (.op (.inc16 k.pair))
  | 0, 5, 3 => some (.op (.dec16 k.pair))
  | 0, 6, 4 => some (.opD fun d => .inc8 (k.ind d))
  | 0, 6, 5 => some (.opD fun d => .dec8 (k.ind d))
  | 0, _, 1 => if fieldQ b1 = 1 then some (.op (.add16 k.base (ssField (fieldP b1)))) else none
  | 2, y, 6 => some (.opD fun d => .alu (aluField y) (.loc (k.ind d)))
  | 3, 4, 1 => some (.op (.pop k.stack))
  | 3, 4, 3 => some (.op (.exSP k.base))
  | 3, 4, 5 => some (.op (.push k.stack))
  | _, _, _ => none

/-- Formats `XY_OP`, `XY_OP_D` and `XYCB_D_OP`, after the byte DD or FD (R70, R79). In the last the
displacement comes before the final opcode byte (R78). -/
def decodeXY (k : Index) : List Byte → Except Reject (Instr × List Byte)
  | [] => .error .truncated
  | b1 :: rest =>
    if b1 = 0xCB#8 then
      match rest with
      | d :: b3 :: r =>
        if fieldX b3 = 0 ∧ fieldZ b3 = 6 then .ok (.rot (rotField (fieldY b3)) (k.ind d), r)
        else .error (.unassignedXYCB k.byte b3)
      | _ => .error .truncated
    else
      match xyRow k b1, rest with
      | some (.op i), r => .ok (i, r)
      | some (.opD mk), d :: r => .ok (mk d, r)
      | some (.opD _), [] => .error .truncated
      | none, _ => .error (.unassignedXY k.byte b1)

/-- The instruction at the head of `bytes` under policy `p`, with the bytes after it (R79, R81). -/
def decode (p : Policy) (bytes : List Byte) : Except Reject (Instr × List Byte) :=
  match bytes with
  | [] => .error .noByte
  | b0 :: rest =>
    if p = .z80 ∧ b0 = 0xCB#8 then decodeCB rest
    else if p = .z80 ∧ b0 = 0xED#8 then decodeED rest
    else if p = .z80 ∧ b0 = 0xDD#8 then decodeXY .ix rest
    else if p = .z80 ∧ b0 = 0xFD#8 then decodeXY .iy rest
    else decodeOp b0 rest

/-- How many bytes the sequencer reads for the instruction that starts with `b0 b1`, whether or not a
row matches in the end (R79, R83); `b1` matters only after CB, ED, DD or FD under `Z80`. -/
def fetchLength (p : Policy) (b0 b1 : Byte) : Nat :=
  if p = .z80 ∧ (b0 = 0xCB#8 ∨ b0 = 0xED#8) then 2
  else if p = .z80 ∧ (b0 = 0xDD#8 ∨ b0 = 0xFD#8) then
    if b1 = 0xCB#8 then 4
    else
      match xyRow .ix b1 with
      | some (.opD _) => 3
      | _ => 2
  else
    match opRow b0 with
    | some (.opN _) => 2
    | some (.opNN _) => 3
    | _ => 1

/-! ### The encoder -/

/-- The bytes of an instruction in fetch order, written row by row from the tables of 30_encoding.md R71
and R80; an immediate word is stored low byte first (R78, 20_memory.md R52). -/
def encode : Instr → List Byte
  | .incBC => [0x03]
  | .incDE => [0x13]
  | .incHL => [0x23]
  | .incSP => [0x33]
  | .decBC => [0x0B]
  | .decDE => [0x1B]
  | .decHL => [0x2B]
  | .decSP => [0x3B]
  | .incB => [0x04]
  | .incC => [0x0C]
  | .incD => [0x14]
  | .incE => [0x1C]
  | .incH => [0x24]
  | .incL => [0x2C]
  | .incIndHL => [0x34]
  | .incA => [0x3C]
  | .decB => [0x05]
  | .decC => [0x0D]
  | .decD => [0x15]
  | .decE => [0x1D]
  | .decH => [0x25]
  | .decL => [0x2D]
  | .decIndHL => [0x35]
  | .decA => [0x3D]
  | .rlca => [0x07]
  | .rrca => [0x0F]
  | .rla => [0x17]
  | .rra => [0x1F]
  | .addHLBC => [0x09]
  | .addHLDE => [0x19]
  | .addHLHL => [0x29]
  | .addHLSP => [0x39]
  | .daa => [0x27]
  | .halt => [0x76]
  | .addAB => [0x80]
  | .addAC => [0x81]
  | .addAD => [0x82]
  | .addAE => [0x83]
  | .addAH => [0x84]
  | .addAL => [0x85]
  | .addAIndHL => [0x86]
  | .addAA => [0x87]
  | .adcAB => [0x88]
  | .adcAC => [0x89]
  | .adcAD => [0x8A]
  | .adcAE => [0x8B]
  | .adcAH => [0x8C]
  | .adcAL => [0x8D]
  | .adcAIndHL => [0x8E]
  | .adcAA => [0x8F]
  | .subB => [0x90]
  | .subC => [0x91]
  | .subD => [0x92]
  | .subE => [0x93]
  | .subH => [0x94]
  | .subL => [0x95]
  | .subIndHL => [0x96]
  | .subA => [0x97]
  | .sbcAB => [0x98]
  | .sbcAC => [0x99]
  | .sbcAD => [0x9A]
  | .sbcAE => [0x9B]
  | .sbcAH => [0x9C]
  | .sbcAL => [0x9D]
  | .sbcAIndHL => [0x9E]
  | .sbcAA => [0x9F]
  | .andB => [0xA0]
  | .andC => [0xA1]
  | .andD => [0xA2]
  | .andE => [0xA3]
  | .andH => [0xA4]
  | .andL => [0xA5]
  | .andIndHL => [0xA6]
  | .andA => [0xA7]
  | .xorB => [0xA8]
  | .xorC => [0xA9]
  | .xorD => [0xAA]
  | .xorE => [0xAB]
  | .xorH => [0xAC]
  | .xorL => [0xAD]
  | .xorIndHL => [0xAE]
  | .xorA => [0xAF]
  | .orB => [0xB0]
  | .orC => [0xB1]
  | .orD => [0xB2]
  | .orE => [0xB3]
  | .orH => [0xB4]
  | .orL => [0xB5]
  | .orIndHL => [0xB6]
  | .orA => [0xB7]
  | .cpB => [0xB8]
  | .cpC => [0xB9]
  | .cpD => [0xBA]
  | .cpE => [0xBB]
  | .cpH => [0xBC]
  | .cpL => [0xBD]
  | .cpIndHL => [0xBE]
  | .cpA => [0xBF]
  | .addAImm n => [0xC6, n]
  | .adcAImm n => [0xCE, n]
  | .subImm n => [0xD6, n]
  | .sbcAImm n => [0xDE, n]
  | .andImm n => [0xE6, n]
  | .xorImm n => [0xEE, n]
  | .orImm n => [0xF6, n]
  | .cpImm n => [0xFE, n]
  | .retNZ => [0xC0]
  | .retZ => [0xC8]
  | .retNC => [0xD0]
  | .retC => [0xD8]
  | .retPO => [0xE0]
  | .retPE => [0xE8]
  | .retP => [0xF0]
  | .retM => [0xF8]
  | .ret => [0xC9]
  | .jpNZ nn => [0xC2, lo8 nn, hi8 nn]
  | .jpZ nn => [0xCA, lo8 nn, hi8 nn]
  | .jpNC nn => [0xD2, lo8 nn, hi8 nn]
  | .jpC nn => [0xDA, lo8 nn, hi8 nn]
  | .jpPO nn => [0xE2, lo8 nn, hi8 nn]
  | .jpPE nn => [0xEA, lo8 nn, hi8 nn]
  | .jpP nn => [0xF2, lo8 nn, hi8 nn]
  | .jpM nn => [0xFA, lo8 nn, hi8 nn]
  | .jp nn => [0xC3, lo8 nn, hi8 nn]
  | .callNZ nn => [0xC4, lo8 nn, hi8 nn]
  | .callZ nn => [0xCC, lo8 nn, hi8 nn]
  | .callNC nn => [0xD4, lo8 nn, hi8 nn]
  | .callC nn => [0xDC, lo8 nn, hi8 nn]
  | .callPO nn => [0xE4, lo8 nn, hi8 nn]
  | .callPE nn => [0xEC, lo8 nn, hi8 nn]
  | .callP nn => [0xF4, lo8 nn, hi8 nn]
  | .callM nn => [0xFC, lo8 nn, hi8 nn]
  | .call nn => [0xCD, lo8 nn, hi8 nn]
  | .rst00 => [0xC7]
  | .rst08 => [0xCF]
  | .rst10 => [0xD7]
  | .rst18 => [0xDF]
  | .rst20 => [0xE7]
  | .rst28 => [0xEF]
  | .rst30 => [0xF7]
  | .rst38 => [0xFF]
  | .popBC => [0xC1]
  | .popDE => [0xD1]
  | .popHL => [0xE1]
  | .popAF => [0xF1]
  | .pushBC => [0xC5]
  | .pushDE => [0xD5]
  | .pushHL => [0xE5]
  | .pushAF => [0xF5]
  | .exSPHL => [0xE3]
  | .rlcB => [0xCB, 0x00]
  | .rlcC => [0xCB, 0x01]
  | .rlcD => [0xCB, 0x02]
  | .rlcE => [0xCB, 0x03]
  | .rlcH => [0xCB, 0x04]
  | .rlcL => [0xCB, 0x05]
  | .rlcIndHL => [0xCB, 0x06]
  | .rlcA => [0xCB, 0x07]
  | .rrcB => [0xCB, 0x08]
  | .rrcC => [0xCB, 0x09]
  | .rrcD => [0xCB, 0x0A]
  | .rrcE => [0xCB, 0x0B]
  | .rrcH => [0xCB, 0x0C]
  | .rrcL => [0xCB, 0x0D]
  | .rrcIndHL => [0xCB, 0x0E]
  | .rrcA => [0xCB, 0x0F]
  | .rlB => [0xCB, 0x10]
  | .rlC => [0xCB, 0x11]
  | .rlD => [0xCB, 0x12]
  | .rlE => [0xCB, 0x13]
  | .rlH => [0xCB, 0x14]
  | .rlL => [0xCB, 0x15]
  | .rlIndHL => [0xCB, 0x16]
  | .rlA => [0xCB, 0x17]
  | .rrB => [0xCB, 0x18]
  | .rrC => [0xCB, 0x19]
  | .rrD => [0xCB, 0x1A]
  | .rrE => [0xCB, 0x1B]
  | .rrH => [0xCB, 0x1C]
  | .rrL => [0xCB, 0x1D]
  | .rrIndHL => [0xCB, 0x1E]
  | .rrA => [0xCB, 0x1F]
  | .slaB => [0xCB, 0x20]
  | .slaC => [0xCB, 0x21]
  | .slaD => [0xCB, 0x22]
  | .slaE => [0xCB, 0x23]
  | .slaH => [0xCB, 0x24]
  | .slaL => [0xCB, 0x25]
  | .slaIndHL => [0xCB, 0x26]
  | .slaA => [0xCB, 0x27]
  | .sraB => [0xCB, 0x28]
  | .sraC => [0xCB, 0x29]
  | .sraD => [0xCB, 0x2A]
  | .sraE => [0xCB, 0x2B]
  | .sraH => [0xCB, 0x2C]
  | .sraL => [0xCB, 0x2D]
  | .sraIndHL => [0xCB, 0x2E]
  | .sraA => [0xCB, 0x2F]
  | .sllB => [0xCB, 0x30]
  | .sllC => [0xCB, 0x31]
  | .sllD => [0xCB, 0x32]
  | .sllE => [0xCB, 0x33]
  | .sllH => [0xCB, 0x34]
  | .sllL => [0xCB, 0x35]
  | .sllIndHL => [0xCB, 0x36]
  | .sllA => [0xCB, 0x37]
  | .srlB => [0xCB, 0x38]
  | .srlC => [0xCB, 0x39]
  | .srlD => [0xCB, 0x3A]
  | .srlE => [0xCB, 0x3B]
  | .srlH => [0xCB, 0x3C]
  | .srlL => [0xCB, 0x3D]
  | .srlIndHL => [0xCB, 0x3E]
  | .srlA => [0xCB, 0x3F]
  | .sbcHLBC => [0xED, 0x42]
  | .sbcHLDE => [0xED, 0x52]
  | .sbcHLHL => [0xED, 0x62]
  | .sbcHLSP => [0xED, 0x72]
  | .adcHLBC => [0xED, 0x4A]
  | .adcHLDE => [0xED, 0x5A]
  | .adcHLHL => [0xED, 0x6A]
  | .adcHLSP => [0xED, 0x7A]
  | .addIXBC => [0xDD, 0x09]
  | .addIXDE => [0xDD, 0x19]
  | .addIXIX => [0xDD, 0x29]
  | .addIXSP => [0xDD, 0x39]
  | .addIYBC => [0xFD, 0x09]
  | .addIYDE => [0xFD, 0x19]
  | .addIYIY => [0xFD, 0x29]
  | .addIYSP => [0xFD, 0x39]
  | .incIX => [0xDD, 0x23]
  | .decIX => [0xDD, 0x2B]
  | .incIY => [0xFD, 0x23]
  | .decIY => [0xFD, 0x2B]
  | .incIndIX d => [0xDD, 0x34, d]
  | .decIndIX d => [0xDD, 0x35, d]
  | .incIndIY d => [0xFD, 0x34, d]
  | .decIndIY d => [0xFD, 0x35, d]
  | .addAIndIX d => [0xDD, 0x86, d]
  | .adcAIndIX d => [0xDD, 0x8E, d]
  | .subIndIX d => [0xDD, 0x96, d]
  | .sbcAIndIX d => [0xDD, 0x9E, d]
  | .andIndIX d => [0xDD, 0xA6, d]
  | .xorIndIX d => [0xDD, 0xAE, d]
  | .orIndIX d => [0xDD, 0xB6, d]
  | .cpIndIX d => [0xDD, 0xBE, d]
  | .addAIndIY d => [0xFD, 0x86, d]
  | .adcAIndIY d => [0xFD, 0x8E, d]
  | .subIndIY d => [0xFD, 0x96, d]
  | .sbcAIndIY d => [0xFD, 0x9E, d]
  | .andIndIY d => [0xFD, 0xA6, d]
  | .xorIndIY d => [0xFD, 0xAE, d]
  | .orIndIY d => [0xFD, 0xB6, d]
  | .cpIndIY d => [0xFD, 0xBE, d]
  | .popIX => [0xDD, 0xE1]
  | .pushIX => [0xDD, 0xE5]
  | .popIY => [0xFD, 0xE1]
  | .pushIY => [0xFD, 0xE5]
  | .exSPIX => [0xDD, 0xE3]
  | .exSPIY => [0xFD, 0xE3]
  | .rlcIndIX d => [0xDD, 0xCB, d, 0x06]
  | .rrcIndIX d => [0xDD, 0xCB, d, 0x0E]
  | .rlIndIX d => [0xDD, 0xCB, d, 0x16]
  | .rrIndIX d => [0xDD, 0xCB, d, 0x1E]
  | .slaIndIX d => [0xDD, 0xCB, d, 0x26]
  | .sraIndIX d => [0xDD, 0xCB, d, 0x2E]
  | .sllIndIX d => [0xDD, 0xCB, d, 0x36]
  | .srlIndIX d => [0xDD, 0xCB, d, 0x3E]
  | .rlcIndIY d => [0xFD, 0xCB, d, 0x06]
  | .rrcIndIY d => [0xFD, 0xCB, d, 0x0E]
  | .rlIndIY d => [0xFD, 0xCB, d, 0x16]
  | .rrIndIY d => [0xFD, 0xCB, d, 0x1E]
  | .slaIndIY d => [0xFD, 0xCB, d, 0x26]
  | .sraIndIY d => [0xFD, 0xCB, d, 0x2E]
  | .sllIndIY d => [0xFD, 0xCB, d, 0x36]
  | .srlIndIY d => [0xFD, 0xCB, d, 0x3E]

/-- The format column of the instruction's row (30_encoding.md R70, R80). -/
def Instr.format : Instr → Format
  | .incBC | .incDE | .incHL | .incSP | .decBC | .decDE | .decHL | .decSP | .incB | .incC | .incD
  | .incE | .incH | .incL | .incIndHL | .incA | .decB | .decC | .decD | .decE | .decH | .decL
  | .decIndHL | .decA | .rlca | .rrca | .rla | .rra | .addHLBC | .addHLDE | .addHLHL | .addHLSP
  | .daa | .halt | .addAB | .addAC | .addAD | .addAE | .addAH | .addAL | .addAIndHL | .addAA
  | .adcAB | .adcAC | .adcAD | .adcAE | .adcAH | .adcAL | .adcAIndHL | .adcAA | .subB | .subC
  | .subD | .subE | .subH | .subL | .subIndHL | .subA | .sbcAB | .sbcAC | .sbcAD | .sbcAE | .sbcAH
  | .sbcAL | .sbcAIndHL | .sbcAA | .andB | .andC | .andD | .andE | .andH | .andL | .andIndHL | .andA
  | .xorB | .xorC | .xorD | .xorE | .xorH | .xorL | .xorIndHL | .xorA | .orB | .orC | .orD | .orE
  | .orH | .orL | .orIndHL | .orA | .cpB | .cpC | .cpD | .cpE | .cpH | .cpL | .cpIndHL | .cpA
  | .retNZ | .retZ | .retNC | .retC | .retPO | .retPE | .retP | .retM | .ret | .rst00 | .rst08
  | .rst10 | .rst18 | .rst20 | .rst28 | .rst30 | .rst38 | .popBC | .popDE | .popHL | .popAF
  | .pushBC | .pushDE | .pushHL | .pushAF | .exSPHL => .op
  | .addAImm _ | .adcAImm _ | .subImm _ | .sbcAImm _ | .andImm _ | .xorImm _ | .orImm _ | .cpImm _ => .opN
  | .jpNZ _ | .jpZ _ | .jpNC _ | .jpC _ | .jpPO _ | .jpPE _ | .jpP _ | .jpM _ | .jp _ | .callNZ _
  | .callZ _ | .callNC _ | .callC _ | .callPO _ | .callPE _ | .callP _ | .callM _ | .call _ => .opNN
  | .rlcB | .rlcC | .rlcD | .rlcE | .rlcH | .rlcL | .rlcIndHL | .rlcA | .rrcB | .rrcC | .rrcD
  | .rrcE | .rrcH | .rrcL | .rrcIndHL | .rrcA | .rlB | .rlC | .rlD | .rlE | .rlH | .rlL | .rlIndHL
  | .rlA | .rrB | .rrC | .rrD | .rrE | .rrH | .rrL | .rrIndHL | .rrA | .slaB | .slaC | .slaD | .slaE
  | .slaH | .slaL | .slaIndHL | .slaA | .sraB | .sraC | .sraD | .sraE | .sraH | .sraL | .sraIndHL
  | .sraA | .sllB | .sllC | .sllD | .sllE | .sllH | .sllL | .sllIndHL | .sllA | .srlB | .srlC
  | .srlD | .srlE | .srlH | .srlL | .srlIndHL | .srlA => .cbOp
  | .sbcHLBC | .sbcHLDE | .sbcHLHL | .sbcHLSP | .adcHLBC | .adcHLDE | .adcHLHL | .adcHLSP => .edOp
  | .addIXBC | .addIXDE | .addIXIX | .addIXSP | .addIYBC | .addIYDE | .addIYIY | .addIYSP | .incIX
  | .decIX | .incIY | .decIY | .popIX | .pushIX | .popIY | .pushIY | .exSPIX | .exSPIY => .xyOp
  | .incIndIX _ | .decIndIX _ | .incIndIY _ | .decIndIY _ | .addAIndIX _ | .adcAIndIX _
  | .subIndIX _ | .sbcAIndIX _ | .andIndIX _ | .xorIndIX _ | .orIndIX _ | .cpIndIX _ | .addAIndIY _
  | .adcAIndIY _ | .subIndIY _ | .sbcAIndIY _ | .andIndIY _ | .xorIndIY _ | .orIndIY _ | .cpIndIY _ => .xyOpD
  | .rlcIndIX _ | .rrcIndIX _ | .rlIndIX _ | .rrIndIX _ | .slaIndIX _ | .sraIndIX _ | .sllIndIX _
  | .srlIndIX _ | .rlcIndIY _ | .rrcIndIY _ | .rlIndIY _ | .rrIndIY _ | .slaIndIY _ | .sraIndIY _
  | .sllIndIY _ | .srlIndIY _ => .xycbDOp

/-- The length column of a format, in bytes (30_encoding.md R70). -/
def Format.length : Format → Nat
  | .op => 1
  | .opN | .cbOp | .edOp | .xyOp => 2
  | .opNN | .xyOpD => 3
  | .xycbDOp => 4

/-- The format starts with one of the bytes CB, ED, DD, FD (30_encoding.md R70). -/
def Format.prefixed : Format → Bool
  | .op | .opN | .opNN => false
  | .cbOp | .edOp | .xyOp | .xyOpD | .xycbDOp => true

/-- The number of bytes of an instruction (30_encoding.md R70, R83). -/
def Instr.length (i : Instr) : Nat := i.format.length

/-! ### The opcode table's numbers -/

/-- The `k` low bytes of `w`, the most significant first. -/
def bytesOf : Nat → Nat → List Byte
  | 0, _ => []
  | k + 1, w => BitVec.ofNat 8 (w / 256 ^ k) :: bytesOf k w

/-- `bytes` followed by bytes of zero, up to the longest instruction's four (R70). -/
def padded (bytes : List Byte) : List Byte := bytes ++ List.replicate (4 - bytes.length) 0x00#8

/-- The bytes start an instruction at least as long as they are, operand bytes they lack being zero. -/
def isRowImage (bytes : List Byte) : Bool :=
  match decode .z80 (padded bytes) with
  | .ok (i, _) => decide (bytes.length ≤ i.length)
  | .error _ => false

/-- The bytes, in fetch order, of a row of opcode_table.json whose bits are `w`. The table reads a row's
bytes as one number with byte0 leftmost (R80); the same number with byte0 lowest is taken where only
that reading names a row (log 4). -/
def tableBytes (nbits w : Nat) : List Byte :=
  let shown := bytesOf (nbits / 8) w
  if isRowImage shown then padded shown
  else if isRowImage shown.reverse then padded shown.reverse
  else padded shown

/-- The instruction the decoder reads from the table's word `w`; the reference policy admits every row
(R81). -/
def decodeTableWord (nbits w : Nat) : Option Instr :=
  match decode .z80 (tableBytes nbits w) with
  | .ok (i, _) => some i
  | .error _ => none

end Sys2Proof
end

