-- ==== Sys2Proof/Machine/Ops.lean ====
section
/-! DEFINITION. The named operations over memory, ports, registers and the stack, the one exception of the
block and its only way out (20_memory.md, 10_state.md, 60_exceptions.md, 70 R230). -/

namespace Sys2Proof

/-! ### The environment (00_scope.md R6 `ENV_MEM`) -/

/-- What is attached at `x` (log 5). -/
def Environment.kindAt : Environment → Word → MemKind
  | [], _ => .ram
  | r :: env, x => if (x - r.base).toNat < r.size then r.kind else Environment.kindAt env x

/-- RAM and ROM hold bytes of memory; a hole or a device does not. -/
def MemKind.isMemory : MemKind → Bool
  | .ram | .rom => true
  | .hole | .device => false

end Sys2Proof

namespace Sys2Proof.Machine

/-! ### A store of bytes in canonical form -/

/-- What an address that lists no cell reads as. DESIGN CHOICE, unsafe: the spec gives memory and ports
no reset contents (10_state.md R35; log 3). -/
def Memory.unlisted : Byte := 0x00#8

/-- The byte at address `n`. -/
def Memory.lookup : Memory → Nat → Byte
  | [], _ => Memory.unlisted
  | (k, v) :: m, n => if k = n then v else Memory.lookup m n

/-- `m` without the cells at address `n`. -/
def Memory.erase : Memory → Nat → Memory
  | [], _ => []
  | (k, w) :: m, n => if k = n then Memory.erase m n else (k, w) :: Memory.erase m n

/-- A cell put in front of the first cell with a higher address. -/
def Memory.place : Memory → Nat → Byte → Memory
  | [], n, v => [(n, v)]
  | (k, w) :: m, n, v => if n < k then (n, v) :: (k, w) :: m else (k, w) :: Memory.place m n v

/-- `m` with the byte at address `n` replaced by `v`; a byte equal to what an unlisted address reads as
is not listed. -/
def Memory.insert (m : Memory) (n : Nat) (v : Byte) : Memory :=
  let rest := Memory.erase m n
  if v = Memory.unlisted then rest else Memory.place rest n v

/-- Every address is at least `lo` and below `bound`, strictly rising, and no cell is redundant. -/
def Memory.wfFrom (bound : Nat) : Nat → Memory → Bool
  | _, [] => true
  | lo, (k, v) :: m =>
    decide (lo ≤ k) && decide (k < bound) && (v != Memory.unlisted) && Memory.wfFrom bound (k + 1) m

/-- The canonical form of memory: 65536 bytes (20_memory.md R50). -/
def Memory.wf (m : Memory) : Bool := Memory.wfFrom Config.memSize 0 m

/-- The canonical form of the I/O space: 256 ports (10_state.md R34). -/
def Memory.portsWf (m : Memory) : Bool := Memory.wfFrom Config.ioPorts 0 m

/-- `MemRead(addr, 1)` as a value (20_memory.md R50). A 16-bit address is always in range (R51). -/
def Memory.read (m : Memory) (addr : Word) : Byte := Memory.lookup m addr.toNat

/-- `MemWrite(addr, 1, v)` as a new store (20_memory.md R50). -/
def Memory.write (m : Memory) (addr : Word) (v : Byte) : Memory := Memory.insert m addr.toNat v

/-- `bytes` stored at ascending addresses modulo 65536: the host's image loader (00_scope.md R8). -/
def Memory.load (m : Memory) (addr : Word) : List Byte → Memory
  | [] => m
  | v :: bytes => Memory.load (Memory.write m addr v) (addr + 1#16) bytes

/-! ### The outputs of a step (00_scope.md R8) -/

/-- What the environment attaches at `x`. -/
def State.kindAt (s : State) (x : Word) : MemKind := Environment.kindAt s.env x

/-- A hole or a device answers the access, not memory. Ports are not behind the memory interface. -/
def State.outside (s : State) : Access → Bool
  | .memRead x _ | .memWrite x _ => !(s.kindAt x).isMemory
  | .ioRead _ _ | .ioWrite _ _ => false

/-- The accesses that holes and devices have answered, after one more access. -/
def State.historyAfter (x : Access) (s : State) : List Access :=
  if s.outside x then s.envHistory ++ [x] else s.envHistory

/-- An access follows those the step has made already; a hole or a device remembers it. -/
def State.log (x : Access) (s : State) : State :=
  { s with out := s.out.log x, envHistory := s.historyAfter x }

/-- `cycles <- k` (00_scope.md R12). -/
def State.charge (k : Nat) (s : State) : State := { s with out := ⟨some k, s.out.bus⟩ }

/-- The outputs before a step has made any. -/
def State.clearOutputs (s : State) : State := { s with out := ⟨none, []⟩ }

/-- The output `decode_error` (10_state.md R31). -/
def State.decodeError (s : State) : Bool := s.fault.isSome

/-! ### Memory and I/O accesses -/

/-- The byte at `addr`, as a value: what the next `MemRead` there gives. RAM and ROM give the byte of memory
(20_memory.md R50); a hole or a device gives a free value (log 13). -/
def State.byteAt (s : State) (addr : Word) : Byte :=
  match (s.kindAt addr).isMemory with
  | true => s.mem.read addr
  | false => Config.environmentByte s.envHistory addr

/-- `MemRead(addr, 1)` (20_memory.md R50). -/
def State.memRead (addr : Word) (s : State) : Byte × State :=
  let v := s.byteAt addr
  (v, s.log (.memRead addr v))

/-- Memory after `v` was written to `addr`: RAM holds it; ROM and a hole keep nothing of it, and what a device
does with it shows in its later answers only (log 13). -/
def State.memAfterWrite (addr : Word) (v : Byte) (s : State) : Memory :=
  match s.kindAt addr with
  | .ram => s.mem.write addr v
  | .rom | .hole | .device => s.mem

/-- `MemWrite(addr, 1, v)` (20_memory.md R50). -/
def State.memWrite (addr : Word) (v : Byte) (s : State) : State :=
  { s.log (.memWrite addr v) with mem := s.memAfterWrite addr v }

/-- `MemRead(addr, 2)`: the low byte, read first, lies at the lower address (20_memory.md R52, R66). -/
def State.memRead2 (addr : Word) (s : State) : Word × State :=
  let (lo, s1) := s.memRead addr
  let (hi, s2) := s1.memRead (addr + 1#16)
  (wordOf hi lo, s2)

/-- `MemRead(addr, 2)` as a value. -/
def State.wordAt (s : State) (addr : Word) : Word := (s.memRead2 addr).1

/-- `IoRead(port)` (20_memory.md R67). No instruction issues it. -/
def State.ioRead (port : Byte) (s : State) : Byte × State :=
  let v := Memory.lookup s.io port.toNat
  (v, s.log (.ioRead port v))

/-- `IoWrite(port, v)` (20_memory.md R67). No instruction issues it. -/
def State.ioWrite (port v : Byte) (s : State) : State :=
  { s.log (.ioWrite port v) with io := Memory.insert s.io port.toNat v }

/-- `n` bytes read at ascending addresses from `addr` (30_encoding.md R70, R79). -/
def State.readBytes : Nat → Word → State → List Byte × State
  | 0, _, s => ([], s)
  | n + 1, addr, s =>
    let (v, s) := s.memRead addr
    let (vs, s) := State.readBytes n (addr + 1#16) s
    (v :: vs, s)

/-- The bytes that `n` reads at ascending addresses from `addr` give, as values. -/
def State.bytesAt : Nat → Word → State → List Byte
  | 0, _, _ => []
  | n + 1, addr, s => s.byteAt addr :: State.bytesAt n (addr + 1#16) (s.memRead addr).2

/-! ### Register pairs (10_state.md R21) -/

/-- BC = B:C. -/
def State.bc (s : State) : Word := wordOf s.b s.c

/-- DE = D:E. -/
def State.de (s : State) : Word := wordOf s.d s.e

/-- HL = H:L. -/
def State.hl (s : State) : Word := wordOf s.h s.l

/-- AF = A:F (R21, R27). -/
def State.af (toByte : Byte) (s : State) : Word := wordOf s.a toByte

/-- `BC <- w`. -/
def State.setBC (w : Word) (s : State) : State := { s with b := hi8 w, c := lo8 w }

/-- `DE <- w`. -/
def State.setDE (w : Word) (s : State) : State := { s with d := hi8 w, e := lo8 w }

/-- `HL <- w`. -/
def State.setHL (w : Word) (s : State) : State := { s with h := hi8 w, l := lo8 w }

/-! ### The stack (20_memory.md §7) -/

/-- `Push16(w)` (R65): the high byte at SP-1, then the low byte at SP-2. -/
def State.push16 (w : Word) (s : State) : State :=
  { (s.memWrite (s.sp - 1#16) (hi8 w)).memWrite (s.sp - 2#16) (lo8 w) with sp := s.sp - 2#16 }

/-- `Pop16()` (R66): the low byte at SP, then the high byte at SP+1. -/
def State.pop16 (s : State) : Word × State :=
  let (w, s1) := s.memRead2 s.sp
  (w, { s1 with sp := s.sp + 2#16 })

/-! ### The decode error and reset -/

/-- Entry of the one exception, `DecodeError(addr, byte)` (60_exceptions.md R212, R215): the latch is set,
PC is the instruction's first byte, no cycle count is output, and nothing else changes. -/
def State.takeDecodeError (addr : Word) (byte : Byte) (s : State) : State :=
  { s with pc := addr, fault := some ⟨addr, byte⟩, out := ⟨none, s.out.bus⟩ }

/-- An instruction that only `Z80` has, starting with the byte `first` and `len` bytes long. Under `I8080`
its first byte is unassigned, so the block raises the decode error at it (60_exceptions.md R211,
30_encoding.md R81); PC has been advanced past the instruction when this is reached (log 9). -/
def onZ80 (first : Byte) (len : Nat) (effect : State → State) (s : State) : Result :=
  match s.policy with
  | .z80 => .next (effect s)
  | .i8080 => .next (s.takeDecodeError (s.pc - BitVec.ofNat 16 len) first)

/-- The reset input (70 R230), the only way out of the decode error (60 R216): PC, `halted` and `fault`
take the values of 10_state.md R35, memory, ports and the environment are untouched, and every register and
flag that R35 leaves unspecified is what `launch` says, any value at all (log 8). -/
def State.applyReset (launch : State) (s : State) : State :=
  { launch with
    policy := s.policy
    pc := Config.resetPc
    halted := false
    fault := none
    mem := s.mem
    io := s.io
    env := s.env
    envHistory := s.envHistory
    out := ⟨none, []⟩ }

end Sys2Proof.Machine
end

