-- ==== Sys2Proof/Machine/Operands.lean ====
section
/-! DEFINITION. Every operand form: registers, `(HL)`, `(IX+d)`, `(IY+d)`, immediates, pairs and stack
operands (30_encoding.md R72, R73, R78; 41 R110; 42; 43 R140; 45; 47). -/

namespace Sys2Proof.Machine

/-- `sext_16(d)` (00_scope.md R11). -/
def sext16 (d : Byte) : Word := d.signExtend 16

/-- `reg8[r]` (30_encoding.md R72). -/
def State.reg8 (s : State) : Reg8 → Byte
  | .b => s.b
  | .c => s.c
  | .d => s.d
  | .e => s.e
  | .h => s.h
  | .l => s.l
  | .a => s.a

/-- `reg8[r] <- v`. -/
def State.setReg8 (r : Reg8) (v : Byte) (s : State) : State :=
  match r with
  | .b => { s with b := v }
  | .c => { s with c := v }
  | .d => { s with d := v }
  | .e => { s with e := v }
  | .h => { s with h := v }
  | .l => { s with l := v }
  | .a => { s with a := v }

/-- The effective address of a memory operand; none for a register (41 R110, 42 §1, 43 R140). -/
def State.ea (s : State) : Place8 → Option Word
  | .reg _ => none
  | .indHL => some s.hl
  | .indIX d => some (s.ix + sext16 d)
  | .indIY d => some (s.iy + sext16 d)

/-- The operand's value, as a value. -/
def State.placeValue (s : State) (m : Place8) : Byte :=
  match m, s.ea m with
  | .reg r, _ => s.reg8 r
  | _, some addr => s.byteAt addr
  | _, none => 0

/-- Read the operand m: a register, or the cell once (42 §1, 43 R140, 20_memory.md R54). -/
def State.readPlace (m : Place8) (s : State) : Byte × State :=
  match m with
  | .reg r => (s.reg8 r, s)
  | .indHL => s.memRead s.hl
  | .indIX d => s.memRead (s.ix + sext16 d)
  | .indIY d => s.memRead (s.iy + sext16 d)

/-- Write the operand m back: a register, or the cell once, at the address it was read at. -/
def State.writePlace (m : Place8) (v : Byte) (s : State) : State :=
  match m with
  | .reg r => s.setReg8 r v
  | .indHL => s.memWrite s.hl v
  | .indIX d => s.memWrite (s.ix + sext16 d) v
  | .indIY d => s.memWrite (s.iy + sext16 d) v

/-- The value of the source operand s, as a value (41 R110). -/
def State.srcValue (s : State) : Src8 → Byte
  | .loc m => s.placeValue m
  | .imm n => n

/-- `read_s(form)` (41 R110). -/
def State.readSrc (src : Src8) (s : State) : Byte × State :=
  match src with
  | .loc m => s.readPlace m
  | .imm n => (n, s)

/-- A 16-bit register or pair that INC and DEC name (42 §2). -/
def State.pair (s : State) : Pair16 → Word
  | .bc => s.bc
  | .de => s.de
  | .hl => s.hl
  | .sp => s.sp
  | .ix => s.ix
  | .iy => s.iy

/-- The write of a 16-bit register or pair. -/
def State.setPair (q : Pair16) (w : Word) (s : State) : State :=
  match q with
  | .bc => s.setBC w
  | .de => s.setDE w
  | .hl => s.setHL w
  | .sp => { s with sp := w }
  | .ix => { s with ix := w }
  | .iy => { s with iy := w }

/-- HL, IX or IY. -/
def State.base (s : State) : Base16 → Word
  | .hl => s.hl
  | .ix => s.ix
  | .iy => s.iy

/-- The write of HL, IX or IY. -/
def State.setBase (x : Base16) (w : Word) (s : State) : State :=
  match x with
  | .hl => s.setHL w
  | .ix => { s with ix := w }
  | .iy => { s with iy := w }

/-- `pair16[ss]` beside the destination `x`: field value 2 names `x` itself (30_encoding.md R73). -/
def State.ss (s : State) (x : Base16) : Ss → Word
  | .bc => s.bc
  | .de => s.de
  | .own => s.base x
  | .sp => s.sp

/-- The word PUSH stores (47 R190, R192); AF is A and the packed flag byte. -/
def State.stackReg (s : State) : StackReg → Word
  | .bc => s.bc
  | .de => s.de
  | .hl => s.hl
  | .af => s.af (s.f.toByte s.policy)
  | .ix => s.ix
  | .iy => s.iy

/-- The register POP writes (47 R191, R193); POP AF loads A and every flag of the policy. -/
def State.setStackReg (q : StackReg) (w : Word) (s : State) : State :=
  match q with
  | .bc => s.setBC w
  | .de => s.setDE w
  | .hl => s.setHL w
  | .af => { s with a := hi8 w, f := s.f.ofByte s.policy (lo8 w) }
  | .ix => { s with ix := w }
  | .iy => { s with iy := w }

end Sys2Proof.Machine
end

