-- ==== Sys2Proof/Machine/Timing.lean ====
section
/-! DEFINITION. `TSTATES`: the T-state count each instruction outputs (70_reset_and_hazards.md R233, R234).
The counts of R233 are the document's; the rest are the spec's non-normative table R234, general
knowledge, which the model adopts (DESIGN CHOICE; log 10). No rule depends on a count. -/

namespace Sys2Proof.Machine

/-- A count that depends on the policy. -/
def perPolicy (p : Policy) (z80 i8080 : Nat) : Nat :=
  match p with
  | .z80 => z80
  | .i8080 => i8080

/-- ADD, ADC, SUB, SBC, AND, XOR, OR, CP. -/
def tAlu : Src8 → Nat
  | .loc (.reg _) => 4
  | .imm _ => 7
  | .loc .indHL => 7
  | .loc (.indIX _) | .loc (.indIY _) => 19

/-- INC m, DEC m. -/
def tIncDec (p : Policy) : Place8 → Nat
  | .reg _ => perPolicy p 4 5
  | .indHL => perPolicy p 11 10
  | .indIX _ | .indIY _ => 23

/-- INC ss, DEC ss. -/
def tIncDecPair (p : Policy) : Pair16 → Nat
  | .bc | .de | .hl | .sp => perPolicy p 6 5
  | .ix | .iy => 10

/-- RLCA, RRCA, RLA, RRA. -/
def tRotateA : Nat := 4

/-- The prefixed rotates and shifts. -/
def tRotate : Place8 → Nat
  | .reg _ => 8
  | .indHL => 15
  | .indIX _ | .indIY _ => 23

/-- DAA. -/
def tDaa : Nat := 4

/-- ADD HL,ss; ADD IX,pp; ADD IY,rr. -/
def tAddPair (p : Policy) : Base16 → Nat
  | .hl => perPolicy p 11 10
  | .ix | .iy => 15

/-- ADC HL,ss; SBC HL,ss. -/
def tCarryPair : Nat := 15

/-- JP nn and JP cc,nn, taken or not (R233). -/
def tJump : Nat := 10

/-- CALL nn. -/
def tCall : Nat := 17

/-- CALL cc,nn: 17 or 10 under `Z80` (R233), 17 or 11 under `I8080` (46 R179). -/
def tCallIf (p : Policy) (taken : Bool) : Nat := if taken then 17 else perPolicy p 10 11

/-- RET. -/
def tReturn : Nat := 10

/-- RET cc: 11 taken, 5 not (R233). -/
def tReturnIf (taken : Bool) : Nat := if taken then 11 else 5

/-- RST t. -/
def tRestart : Nat := 11

/-- PUSH. -/
def tPush : StackReg → Nat
  | .bc | .de | .hl | .af => 11
  | .ix | .iy => 15

/-- POP. -/
def tPop : StackReg → Nat
  | .bc | .de | .hl | .af => 10
  | .ix | .iy => 14

/-- EX (SP),HL / IX / IY. -/
def tExchange (p : Policy) : Base16 → Nat
  | .hl => perPolicy p 19 18
  | .ix | .iy => 23

/-- HALT. -/
def tHalt (p : Policy) : Nat := perPolicy p 4 7

end Sys2Proof.Machine
end

