-- ==== Sys2Proof/Machine/Alu8.lean ====
section
/-! DEFINITION. ADD, ADC, SUB, SBC, AND, XOR, OR, CP (41_alu8.md). -/

namespace Sys2Proof.Machine

/-- What the operation makes of A and the operand: the new A and the new flags (41 R111 to R118). CP gives
A back unchanged. -/
def aluStep (op : AluOp) (p : Policy) (a v : Byte) (f : Flags) : Byte × Flags :=
  match op with
  | .add => aluAdd p a v false f
  | .adc => aluAdd p a v f.c f
  | .sub => aluSub p a v false f
  | .sbc => aluSub p a v f.c f
  | .and => aluAnd p a v f
  | .xor => aluXor p a v f
  | .or => aluOr p a v f
  | .cp => (a, compareFlags p a v f)

/-- An 8-bit ALU instruction: read the operand, then write A and the flags (41 R110). -/
def aluA (op : AluOp) (src : Src8) (s : State) : State :=
  let (v, s1) := s.readSrc src
  let (r, f) := aluStep op s.policy s.a v s.f
  { s1 with a := r, f := f }.charge (tAlu src)

/-- `ADD A,B` (R111). -/
def execAddAB (s : State) : Result :=
  .next (aluA .add (.loc (.reg .b)) s)

/-- `ADD A,C` (R111). -/
def execAddAC (s : State) : Result :=
  .next (aluA .add (.loc (.reg .c)) s)

/-- `ADD A,D` (R111). -/
def execAddAD (s : State) : Result :=
  .next (aluA .add (.loc (.reg .d)) s)

/-- `ADD A,E` (R111). -/
def execAddAE (s : State) : Result :=
  .next (aluA .add (.loc (.reg .e)) s)

/-- `ADD A,H` (R111). -/
def execAddAH (s : State) : Result :=
  .next (aluA .add (.loc (.reg .h)) s)

/-- `ADD A,L` (R111). -/
def execAddAL (s : State) : Result :=
  .next (aluA .add (.loc (.reg .l)) s)

/-- `ADD A,(HL)` (R111). -/
def execAddAIndHL (s : State) : Result :=
  .next (aluA .add (.loc .indHL) s)

/-- `ADD A,A` (R111). -/
def execAddAA (s : State) : Result :=
  .next (aluA .add (.loc (.reg .a)) s)

/-- `ADC A,B` (R112). -/
def execAdcAB (s : State) : Result :=
  .next (aluA .adc (.loc (.reg .b)) s)

/-- `ADC A,C` (R112). -/
def execAdcAC (s : State) : Result :=
  .next (aluA .adc (.loc (.reg .c)) s)

/-- `ADC A,D` (R112). -/
def execAdcAD (s : State) : Result :=
  .next (aluA .adc (.loc (.reg .d)) s)

/-- `ADC A,E` (R112). -/
def execAdcAE (s : State) : Result :=
  .next (aluA .adc (.loc (.reg .e)) s)

/-- `ADC A,H` (R112). -/
def execAdcAH (s : State) : Result :=
  .next (aluA .adc (.loc (.reg .h)) s)

/-- `ADC A,L` (R112). -/
def execAdcAL (s : State) : Result :=
  .next (aluA .adc (.loc (.reg .l)) s)

/-- `ADC A,(HL)` (R112). -/
def execAdcAIndHL (s : State) : Result :=
  .next (aluA .adc (.loc .indHL) s)

/-- `ADC A,A` (R112). -/
def execAdcAA (s : State) : Result :=
  .next (aluA .adc (.loc (.reg .a)) s)

/-- `SUB B` (R113). -/
def execSubB (s : State) : Result :=
  .next (aluA .sub (.loc (.reg .b)) s)

/-- `SUB C` (R113). -/
def execSubC (s : State) : Result :=
  .next (aluA .sub (.loc (.reg .c)) s)

/-- `SUB D` (R113). -/
def execSubD (s : State) : Result :=
  .next (aluA .sub (.loc (.reg .d)) s)

/-- `SUB E` (R113). -/
def execSubE (s : State) : Result :=
  .next (aluA .sub (.loc (.reg .e)) s)

/-- `SUB H` (R113). -/
def execSubH (s : State) : Result :=
  .next (aluA .sub (.loc (.reg .h)) s)

/-- `SUB L` (R113). -/
def execSubL (s : State) : Result :=
  .next (aluA .sub (.loc (.reg .l)) s)

/-- `SUB (HL)` (R113). -/
def execSubIndHL (s : State) : Result :=
  .next (aluA .sub (.loc .indHL) s)

/-- `SUB A` (R113). -/
def execSubA (s : State) : Result :=
  .next (aluA .sub (.loc (.reg .a)) s)

/-- `SBC A,B` (R114). -/
def execSbcAB (s : State) : Result :=
  .next (aluA .sbc (.loc (.reg .b)) s)

/-- `SBC A,C` (R114). -/
def execSbcAC (s : State) : Result :=
  .next (aluA .sbc (.loc (.reg .c)) s)

/-- `SBC A,D` (R114). -/
def execSbcAD (s : State) : Result :=
  .next (aluA .sbc (.loc (.reg .d)) s)

/-- `SBC A,E` (R114). -/
def execSbcAE (s : State) : Result :=
  .next (aluA .sbc (.loc (.reg .e)) s)

/-- `SBC A,H` (R114). -/
def execSbcAH (s : State) : Result :=
  .next (aluA .sbc (.loc (.reg .h)) s)

/-- `SBC A,L` (R114). -/
def execSbcAL (s : State) : Result :=
  .next (aluA .sbc (.loc (.reg .l)) s)

/-- `SBC A,(HL)` (R114). -/
def execSbcAIndHL (s : State) : Result :=
  .next (aluA .sbc (.loc .indHL) s)

/-- `SBC A,A` (R114). -/
def execSbcAA (s : State) : Result :=
  .next (aluA .sbc (.loc (.reg .a)) s)

/-- `AND B` (R115). -/
def execAndB (s : State) : Result :=
  .next (aluA .and (.loc (.reg .b)) s)

/-- `AND C` (R115). -/
def execAndC (s : State) : Result :=
  .next (aluA .and (.loc (.reg .c)) s)

/-- `AND D` (R115). -/
def execAndD (s : State) : Result :=
  .next (aluA .and (.loc (.reg .d)) s)

/-- `AND E` (R115). -/
def execAndE (s : State) : Result :=
  .next (aluA .and (.loc (.reg .e)) s)

/-- `AND H` (R115). -/
def execAndH (s : State) : Result :=
  .next (aluA .and (.loc (.reg .h)) s)

/-- `AND L` (R115). -/
def execAndL (s : State) : Result :=
  .next (aluA .and (.loc (.reg .l)) s)

/-- `AND (HL)` (R115). -/
def execAndIndHL (s : State) : Result :=
  .next (aluA .and (.loc .indHL) s)

/-- `AND A` (R115). -/
def execAndA (s : State) : Result :=
  .next (aluA .and (.loc (.reg .a)) s)

/-- `XOR B` (R116). -/
def execXorB (s : State) : Result :=
  .next (aluA .xor (.loc (.reg .b)) s)

/-- `XOR C` (R116). -/
def execXorC (s : State) : Result :=
  .next (aluA .xor (.loc (.reg .c)) s)

/-- `XOR D` (R116). -/
def execXorD (s : State) : Result :=
  .next (aluA .xor (.loc (.reg .d)) s)

/-- `XOR E` (R116). -/
def execXorE (s : State) : Result :=
  .next (aluA .xor (.loc (.reg .e)) s)

/-- `XOR H` (R116). -/
def execXorH (s : State) : Result :=
  .next (aluA .xor (.loc (.reg .h)) s)

/-- `XOR L` (R116). -/
def execXorL (s : State) : Result :=
  .next (aluA .xor (.loc (.reg .l)) s)

/-- `XOR (HL)` (R116). -/
def execXorIndHL (s : State) : Result :=
  .next (aluA .xor (.loc .indHL) s)

/-- `XOR A` (R116). -/
def execXorA (s : State) : Result :=
  .next (aluA .xor (.loc (.reg .a)) s)

/-- `OR B` (R117). -/
def execOrB (s : State) : Result :=
  .next (aluA .or (.loc (.reg .b)) s)

/-- `OR C` (R117). -/
def execOrC (s : State) : Result :=
  .next (aluA .or (.loc (.reg .c)) s)

/-- `OR D` (R117). -/
def execOrD (s : State) : Result :=
  .next (aluA .or (.loc (.reg .d)) s)

/-- `OR E` (R117). -/
def execOrE (s : State) : Result :=
  .next (aluA .or (.loc (.reg .e)) s)

/-- `OR H` (R117). -/
def execOrH (s : State) : Result :=
  .next (aluA .or (.loc (.reg .h)) s)

/-- `OR L` (R117). -/
def execOrL (s : State) : Result :=
  .next (aluA .or (.loc (.reg .l)) s)

/-- `OR (HL)` (R117). -/
def execOrIndHL (s : State) : Result :=
  .next (aluA .or (.loc .indHL) s)

/-- `OR A` (R117). -/
def execOrA (s : State) : Result :=
  .next (aluA .or (.loc (.reg .a)) s)

/-- `CP B` (R118). -/
def execCpB (s : State) : Result :=
  .next (aluA .cp (.loc (.reg .b)) s)

/-- `CP C` (R118). -/
def execCpC (s : State) : Result :=
  .next (aluA .cp (.loc (.reg .c)) s)

/-- `CP D` (R118). -/
def execCpD (s : State) : Result :=
  .next (aluA .cp (.loc (.reg .d)) s)

/-- `CP E` (R118). -/
def execCpE (s : State) : Result :=
  .next (aluA .cp (.loc (.reg .e)) s)

/-- `CP H` (R118). -/
def execCpH (s : State) : Result :=
  .next (aluA .cp (.loc (.reg .h)) s)

/-- `CP L` (R118). -/
def execCpL (s : State) : Result :=
  .next (aluA .cp (.loc (.reg .l)) s)

/-- `CP (HL)` (R118). -/
def execCpIndHL (s : State) : Result :=
  .next (aluA .cp (.loc .indHL) s)

/-- `CP A` (R118). -/
def execCpA (s : State) : Result :=
  .next (aluA .cp (.loc (.reg .a)) s)

/-- `ADD A,n` (R111). -/
def execAddAImm (n : Byte) (s : State) : Result :=
  .next (aluA .add (.imm n) s)

/-- `ADC A,n` (R112). -/
def execAdcAImm (n : Byte) (s : State) : Result :=
  .next (aluA .adc (.imm n) s)

/-- `SUB n` (R113). -/
def execSubImm (n : Byte) (s : State) : Result :=
  .next (aluA .sub (.imm n) s)

/-- `SBC A,n` (R114). -/
def execSbcAImm (n : Byte) (s : State) : Result :=
  .next (aluA .sbc (.imm n) s)

/-- `AND n` (R115). -/
def execAndImm (n : Byte) (s : State) : Result :=
  .next (aluA .and (.imm n) s)

/-- `XOR n` (R116). -/
def execXorImm (n : Byte) (s : State) : Result :=
  .next (aluA .xor (.imm n) s)

/-- `OR n` (R117). -/
def execOrImm (n : Byte) (s : State) : Result :=
  .next (aluA .or (.imm n) s)

/-- `CP n` (R118). -/
def execCpImm (n : Byte) (s : State) : Result :=
  .next (aluA .cp (.imm n) s)

/-- `ADD A,(IX+d)` (R111). -/
def execAddAIndIX (d : Byte) (s : State) : Result :=
  onZ80 0xDD 3 (aluA .add (.loc (.indIX d))) s

/-- `ADC A,(IX+d)` (R112). -/
def execAdcAIndIX (d : Byte) (s : State) : Result :=
  onZ80 0xDD 3 (aluA .adc (.loc (.indIX d))) s

/-- `SUB (IX+d)` (R113). -/
def execSubIndIX (d : Byte) (s : State) : Result :=
  onZ80 0xDD 3 (aluA .sub (.loc (.indIX d))) s

/-- `SBC A,(IX+d)` (R114). -/
def execSbcAIndIX (d : Byte) (s : State) : Result :=
  onZ80 0xDD 3 (aluA .sbc (.loc (.indIX d))) s

/-- `AND (IX+d)` (R115). -/
def execAndIndIX (d : Byte) (s : State) : Result :=
  onZ80 0xDD 3 (aluA .and (.loc (.indIX d))) s

/-- `XOR (IX+d)` (R116). -/
def execXorIndIX (d : Byte) (s : State) : Result :=
  onZ80 0xDD 3 (aluA .xor (.loc (.indIX d))) s

/-- `OR (IX+d)` (R117). -/
def execOrIndIX (d : Byte) (s : State) : Result :=
  onZ80 0xDD 3 (aluA .or (.loc (.indIX d))) s

/-- `CP (IX+d)` (R118). -/
def execCpIndIX (d : Byte) (s : State) : Result :=
  onZ80 0xDD 3 (aluA .cp (.loc (.indIX d))) s

/-- `ADD A,(IY+d)` (R111). -/
def execAddAIndIY (d : Byte) (s : State) : Result :=
  onZ80 0xFD 3 (aluA .add (.loc (.indIY d))) s

/-- `ADC A,(IY+d)` (R112). -/
def execAdcAIndIY (d : Byte) (s : State) : Result :=
  onZ80 0xFD 3 (aluA .adc (.loc (.indIY d))) s

/-- `SUB (IY+d)` (R113). -/
def execSubIndIY (d : Byte) (s : State) : Result :=
  onZ80 0xFD 3 (aluA .sub (.loc (.indIY d))) s

/-- `SBC A,(IY+d)` (R114). -/
def execSbcAIndIY (d : Byte) (s : State) : Result :=
  onZ80 0xFD 3 (aluA .sbc (.loc (.indIY d))) s

/-- `AND (IY+d)` (R115). -/
def execAndIndIY (d : Byte) (s : State) : Result :=
  onZ80 0xFD 3 (aluA .and (.loc (.indIY d))) s

/-- `XOR (IY+d)` (R116). -/
def execXorIndIY (d : Byte) (s : State) : Result :=
  onZ80 0xFD 3 (aluA .xor (.loc (.indIY d))) s

/-- `OR (IY+d)` (R117). -/
def execOrIndIY (d : Byte) (s : State) : Result :=
  onZ80 0xFD 3 (aluA .or (.loc (.indIY d))) s

/-- `CP (IY+d)` (R118). -/
def execCpIndIY (d : Byte) (s : State) : Result :=
  onZ80 0xFD 3 (aluA .cp (.loc (.indIY d))) s

end Sys2Proof.Machine
end

