-- ==== Sys2Proof/Machine/Arith16.lean ====
section
/-! DEFINITION. 16-bit arithmetic (45_add16.md). -/

namespace Sys2Proof.Machine

/-- ADD HL,ss; ADD IX,pp; ADD IY,rr (R165, R168, R169). -/
def addPair (x : Base16) (q : Ss) (s : State) : State :=
  let (r, f) := aluAddPair s.policy (s.base x) (s.ss x q) s.f
  ({ s with f := f }.setBase x r).charge (tAddPair s.policy x)

/-- ADC HL,ss (R166). -/
def adcHL (q : Ss) (s : State) : State :=
  let (r, f) := aluAdd s.policy s.hl (s.ss .hl q) s.f.c s.f
  ({ s with f := f }.setHL r).charge tCarryPair

/-- SBC HL,ss (R167). -/
def sbcHL (q : Ss) (s : State) : State :=
  let (r, f) := aluSub s.policy s.hl (s.ss .hl q) s.f.c s.f
  ({ s with f := f }.setHL r).charge tCarryPair

/-- `ADD HL,BC` (R165). -/
def execAddHLBC (s : State) : Result :=
  .next (addPair .hl .bc s)

/-- `ADD HL,DE` (R165). -/
def execAddHLDE (s : State) : Result :=
  .next (addPair .hl .de s)

/-- `ADD HL,HL` (R165). -/
def execAddHLHL (s : State) : Result :=
  .next (addPair .hl .own s)

/-- `ADD HL,SP` (R165). -/
def execAddHLSP (s : State) : Result :=
  .next (addPair .hl .sp s)

/-- `SBC HL,BC` (R167). -/
def execSbcHLBC (s : State) : Result :=
  onZ80 0xED 2 (sbcHL .bc) s

/-- `SBC HL,DE` (R167). -/
def execSbcHLDE (s : State) : Result :=
  onZ80 0xED 2 (sbcHL .de) s

/-- `SBC HL,HL` (R167). -/
def execSbcHLHL (s : State) : Result :=
  onZ80 0xED 2 (sbcHL .own) s

/-- `SBC HL,SP` (R167). -/
def execSbcHLSP (s : State) : Result :=
  onZ80 0xED 2 (sbcHL .sp) s

/-- `ADC HL,BC` (R166). -/
def execAdcHLBC (s : State) : Result :=
  onZ80 0xED 2 (adcHL .bc) s

/-- `ADC HL,DE` (R166). -/
def execAdcHLDE (s : State) : Result :=
  onZ80 0xED 2 (adcHL .de) s

/-- `ADC HL,HL` (R166). -/
def execAdcHLHL (s : State) : Result :=
  onZ80 0xED 2 (adcHL .own) s

/-- `ADC HL,SP` (R166). -/
def execAdcHLSP (s : State) : Result :=
  onZ80 0xED 2 (adcHL .sp) s

/-- `ADD IX,BC` (R168). -/
def execAddIXBC (s : State) : Result :=
  onZ80 0xDD 2 (addPair .ix .bc) s

/-- `ADD IX,DE` (R168). -/
def execAddIXDE (s : State) : Result :=
  onZ80 0xDD 2 (addPair .ix .de) s

/-- `ADD IX,IX` (R168). -/
def execAddIXIX (s : State) : Result :=
  onZ80 0xDD 2 (addPair .ix .own) s

/-- `ADD IX,SP` (R168). -/
def execAddIXSP (s : State) : Result :=
  onZ80 0xDD 2 (addPair .ix .sp) s

/-- `ADD IY,BC` (R169). -/
def execAddIYBC (s : State) : Result :=
  onZ80 0xFD 2 (addPair .iy .bc) s

/-- `ADD IY,DE` (R169). -/
def execAddIYDE (s : State) : Result :=
  onZ80 0xFD 2 (addPair .iy .de) s

/-- `ADD IY,IY` (R169). -/
def execAddIYIY (s : State) : Result :=
  onZ80 0xFD 2 (addPair .iy .own) s

/-- `ADD IY,SP` (R169). -/
def execAddIYSP (s : State) : Result :=
  onZ80 0xFD 2 (addPair .iy .sp) s

end Sys2Proof.Machine
end

