-- ==== Sys2Proof/Machine/Control.lean ====
section
/-! DEFINITION. The branch, call and return sequencer (46_jump_call_return.md). PC is the address of the byte
after the instruction when these run (30_encoding.md R79). -/

namespace Sys2Proof.Machine

/-- JP nn (R176). -/
def jumpTo (nn : Word) (s : State) : State := { s with pc := nn }.charge tJump

/-- JP cc,nn (R177). -/
def jumpIf (cc : Cond) (nn : Word) (s : State) : State :=
  if s.f.holds cc then { s with pc := nn }.charge tJump else s.charge tJump

/-- `Push16(PC)`, then `PC <- target`: what CALL and RST share (R178, R182). -/
def State.pushJump (target : Word) (s : State) : State := { s.push16 s.pc with pc := target }

/-- `PC <- Pop16()`: what RET and RET cc share (R180). -/
def State.popPC (s : State) : State :=
  { s.pop16.2 with pc := s.pop16.1 }

/-- CALL nn (R178). -/
def callTo (nn : Word) (s : State) : State := (s.pushJump nn).charge tCall

/-- CALL cc,nn (R179): no stack access when not taken. -/
def callIf (cc : Cond) (nn : Word) (s : State) : State :=
  if s.f.holds cc then (s.pushJump nn).charge (tCallIf s.policy true)
  else s.charge (tCallIf s.policy false)

/-- RET (R180). -/
def returnPop (s : State) : State := s.popPC.charge tReturn

/-- RET cc (R181): no stack access when not taken. -/
def returnIf (cc : Cond) (s : State) : State :=
  if s.f.holds cc then s.popPC.charge (tReturnIf true) else s.charge (tReturnIf false)

/-- The restart address of field value `t` (30_encoding.md R77, R182). -/
def restartTarget (t : Fin 8) : Word := BitVec.ofNat 16 (t.val * Config.rstSpacing)

/-- RST t (R182). -/
def restart (t : Fin 8) (s : State) : State := (s.pushJump (restartTarget t)).charge tRestart

/-- `RET NZ` (R181). -/
def execRetNZ (s : State) : Result :=
  .next (returnIf .nz s)

/-- `RET Z` (R181). -/
def execRetZ (s : State) : Result :=
  .next (returnIf .z s)

/-- `RET NC` (R181). -/
def execRetNC (s : State) : Result :=
  .next (returnIf .nc s)

/-- `RET C` (R181). -/
def execRetC (s : State) : Result :=
  .next (returnIf .c s)

/-- `RET PO` (R181). -/
def execRetPO (s : State) : Result :=
  .next (returnIf .po s)

/-- `RET PE` (R181). -/
def execRetPE (s : State) : Result :=
  .next (returnIf .pe s)

/-- `RET P` (R181). -/
def execRetP (s : State) : Result :=
  .next (returnIf .p s)

/-- `RET M` (R181). -/
def execRetM (s : State) : Result :=
  .next (returnIf .m s)

/-- `RET` (R180). -/
def execRet (s : State) : Result :=
  .next (returnPop s)

/-- `JP NZ,nn` (R177). -/
def execJpNZ (nn : Word) (s : State) : Result :=
  .next (jumpIf .nz nn s)

/-- `JP Z,nn` (R177). -/
def execJpZ (nn : Word) (s : State) : Result :=
  .next (jumpIf .z nn s)

/-- `JP NC,nn` (R177). -/
def execJpNC (nn : Word) (s : State) : Result :=
  .next (jumpIf .nc nn s)

/-- `JP C,nn` (R177). -/
def execJpC (nn : Word) (s : State) : Result :=
  .next (jumpIf .c nn s)

/-- `JP PO,nn` (R177). -/
def execJpPO (nn : Word) (s : State) : Result :=
  .next (jumpIf .po nn s)

/-- `JP PE,nn` (R177). -/
def execJpPE (nn : Word) (s : State) : Result :=
  .next (jumpIf .pe nn s)

/-- `JP P,nn` (R177). -/
def execJpP (nn : Word) (s : State) : Result :=
  .next (jumpIf .p nn s)

/-- `JP M,nn` (R177). -/
def execJpM (nn : Word) (s : State) : Result :=
  .next (jumpIf .m nn s)

/-- `JP nn` (R176). -/
def execJp (nn : Word) (s : State) : Result :=
  .next (jumpTo nn s)

/-- `CALL NZ,nn` (R179). -/
def execCallNZ (nn : Word) (s : State) : Result :=
  .next (callIf .nz nn s)

/-- `CALL Z,nn` (R179). -/
def execCallZ (nn : Word) (s : State) : Result :=
  .next (callIf .z nn s)

/-- `CALL NC,nn` (R179). -/
def execCallNC (nn : Word) (s : State) : Result :=
  .next (callIf .nc nn s)

/-- `CALL C,nn` (R179). -/
def execCallC (nn : Word) (s : State) : Result :=
  .next (callIf .c nn s)

/-- `CALL PO,nn` (R179). -/
def execCallPO (nn : Word) (s : State) : Result :=
  .next (callIf .po nn s)

/-- `CALL PE,nn` (R179). -/
def execCallPE (nn : Word) (s : State) : Result :=
  .next (callIf .pe nn s)

/-- `CALL P,nn` (R179). -/
def execCallP (nn : Word) (s : State) : Result :=
  .next (callIf .p nn s)

/-- `CALL M,nn` (R179). -/
def execCallM (nn : Word) (s : State) : Result :=
  .next (callIf .m nn s)

/-- `CALL nn` (R178). -/
def execCall (nn : Word) (s : State) : Result :=
  .next (callTo nn s)

/-- `RST 0x00` (R182). -/
def execRst00 (s : State) : Result :=
  .next (restart 0 s)

/-- `RST 0x08` (R182). -/
def execRst08 (s : State) : Result :=
  .next (restart 1 s)

/-- `RST 0x10` (R182). -/
def execRst10 (s : State) : Result :=
  .next (restart 2 s)

/-- `RST 0x18` (R182). -/
def execRst18 (s : State) : Result :=
  .next (restart 3 s)

/-- `RST 0x20` (R182). -/
def execRst20 (s : State) : Result :=
  .next (restart 4 s)

/-- `RST 0x28` (R182). -/
def execRst28 (s : State) : Result :=
  .next (restart 5 s)

/-- `RST 0x30` (R182). -/
def execRst30 (s : State) : Result :=
  .next (restart 6 s)

/-- `RST 0x38` (R182). -/
def execRst38 (s : State) : Result :=
  .next (restart 7 s)

end Sys2Proof.Machine
end

