-- ==== Sys2Proof/Machine/Daa.lean ====
section
/-! DEFINITION. DAA, the BCD adjustment stage (44_daa.md R160). -/

namespace Sys2Proof.Machine

/-- The correction byte: 0x00, 0x06, 0x60 or 0x66 (R160, 90_conflicts.md C7). -/
def daaCorrection (a : Byte) (f : Flags) : Byte :=
  let lo := a.toNat % 16
  let hi := a.toNat / 16
  BitVec.ofNat 8
    ((if lo > 9 ∨ f.h = true then 0x06 else 0x00) +
      (if hi > 9 ∨ f.c = true ∨ (lo > 9 ∧ hi > 8) then 0x60 else 0x00))

/-- The condition of the high correction, which is the carry out (R160). -/
def daaHigh (a : Byte) (f : Flags) : Bool :=
  decide (a.toNat / 16 > 9 ∨ f.c = true ∨ (a.toNat % 16 > 9 ∧ a.toNat / 16 > 8))

/-- The correction is subtracted: `Z80` with N set; `I8080` has no N (R160). -/
def daaSubtracts (p : Policy) (f : Flags) : Bool :=
  match p with
  | .z80 => f.n
  | .i8080 => false

/-- The adjusted accumulator and the flags; N, F5 and F3 are kept (R160). -/
def aluDaa (p : Policy) (a : Byte) (f : Flags) : Byte × Flags :=
  let corr := daaCorrection a f
  let r := if daaSubtracts p f then a - corr else a + corr
  let h := if daaSubtracts p f then halfSub a corr false else halfAdd a corr false
  (r, { f with
    c := f.c || daaHigh a f
    h := h
    z := zeroFlag r
    s := signFlag r
    pv := parity8 r })

/-- DAA (R160). -/
def decimalAdjust (s : State) : State :=
  let (r, f) := aluDaa s.policy s.a s.f
  { s with a := r, f := f }.charge tDaa

/-- `DAA` (R160). -/
def execDaa (s : State) : Result :=
  .next (decimalAdjust s)

end Sys2Proof.Machine
end

