-- ==== Sys2Proof/Machine/IncDec.lean ====
section
/-! DEFINITION. INC and DEC, 8-bit and 16-bit forms (42_incdec.md). -/

namespace Sys2Proof.Machine

/-- INC m (R130). -/
def incPlace8 (m : Place8) (s : State) : State :=
  let (v, s1) := s.readPlace m
  let (r, f) := aluInc s.policy v s.f
  (({ s1 with f := f }.writePlace m r).charge (tIncDec s.policy m))

/-- DEC m (R131). -/
def decPlace8 (m : Place8) (s : State) : State :=
  let (v, s1) := s.readPlace m
  let (r, f) := aluDec s.policy v s.f
  (({ s1 with f := f }.writePlace m r).charge (tIncDec s.policy m))

/-- INC ss (R132): no flag. -/
def incPair16 (q : Pair16) (s : State) : State :=
  (s.setPair q (s.pair q + 1#16)).charge (tIncDecPair s.policy q)

/-- DEC ss (R133): no flag. -/
def decPair16 (q : Pair16) (s : State) : State :=
  (s.setPair q (s.pair q - 1#16)).charge (tIncDecPair s.policy q)

/-- `INC BC` (R132). -/
def execIncBC (s : State) : Result :=
  .next (incPair16 .bc s)

/-- `INC DE` (R132). -/
def execIncDE (s : State) : Result :=
  .next (incPair16 .de s)

/-- `INC HL` (R132). -/
def execIncHL (s : State) : Result :=
  .next (incPair16 .hl s)

/-- `INC SP` (R132). -/
def execIncSP (s : State) : Result :=
  .next (incPair16 .sp s)

/-- `DEC BC` (R133). -/
def execDecBC (s : State) : Result :=
  .next (decPair16 .bc s)

/-- `DEC DE` (R133). -/
def execDecDE (s : State) : Result :=
  .next (decPair16 .de s)

/-- `DEC HL` (R133). -/
def execDecHL (s : State) : Result :=
  .next (decPair16 .hl s)

/-- `DEC SP` (R133). -/
def execDecSP (s : State) : Result :=
  .next (decPair16 .sp s)

/-- `INC B` (R130). -/
def execIncB (s : State) : Result :=
  .next (incPlace8 (.reg .b) s)

/-- `INC C` (R130). -/
def execIncC (s : State) : Result :=
  .next (incPlace8 (.reg .c) s)

/-- `INC D` (R130). -/
def execIncD (s : State) : Result :=
  .next (incPlace8 (.reg .d) s)

/-- `INC E` (R130). -/
def execIncE (s : State) : Result :=
  .next (incPlace8 (.reg .e) s)

/-- `INC H` (R130). -/
def execIncH (s : State) : Result :=
  .next (incPlace8 (.reg .h) s)

/-- `INC L` (R130). -/
def execIncL (s : State) : Result :=
  .next (incPlace8 (.reg .l) s)

/-- `INC (HL)` (R130). -/
def execIncIndHL (s : State) : Result :=
  .next (incPlace8 .indHL s)

/-- `INC A` (R130). -/
def execIncA (s : State) : Result :=
  .next (incPlace8 (.reg .a) s)

/-- `DEC B` (R131). -/
def execDecB (s : State) : Result :=
  .next (decPlace8 (.reg .b) s)

/-- `DEC C` (R131). -/
def execDecC (s : State) : Result :=
  .next (decPlace8 (.reg .c) s)

/-- `DEC D` (R131). -/
def execDecD (s : State) : Result :=
  .next (decPlace8 (.reg .d) s)

/-- `DEC E` (R131). -/
def execDecE (s : State) : Result :=
  .next (decPlace8 (.reg .e) s)

/-- `DEC H` (R131). -/
def execDecH (s : State) : Result :=
  .next (decPlace8 (.reg .h) s)

/-- `DEC L` (R131). -/
def execDecL (s : State) : Result :=
  .next (decPlace8 (.reg .l) s)

/-- `DEC (HL)` (R131). -/
def execDecIndHL (s : State) : Result :=
  .next (decPlace8 .indHL s)

/-- `DEC A` (R131). -/
def execDecA (s : State) : Result :=
  .next (decPlace8 (.reg .a) s)

/-- `INC IX` (R132). -/
def execIncIX (s : State) : Result :=
  onZ80 0xDD 2 (incPair16 .ix) s

/-- `DEC IX` (R133). -/
def execDecIX (s : State) : Result :=
  onZ80 0xDD 2 (decPair16 .ix) s

/-- `INC IY` (R132). -/
def execIncIY (s : State) : Result :=
  onZ80 0xFD 2 (incPair16 .iy) s

/-- `DEC IY` (R133). -/
def execDecIY (s : State) : Result :=
  onZ80 0xFD 2 (decPair16 .iy) s

/-- `INC (IX+d)` (R130). -/
def execIncIndIX (d : Byte) (s : State) : Result :=
  onZ80 0xDD 3 (incPlace8 (.indIX d)) s

/-- `DEC (IX+d)` (R131). -/
def execDecIndIX (d : Byte) (s : State) : Result :=
  onZ80 0xDD 3 (decPlace8 (.indIX d)) s

/-- `INC (IY+d)` (R130). -/
def execIncIndIY (d : Byte) (s : State) : Result :=
  onZ80 0xFD 3 (incPlace8 (.indIY d)) s

/-- `DEC (IY+d)` (R131). -/
def execDecIndIY (d : Byte) (s : State) : Result :=
  onZ80 0xFD 3 (decPlace8 (.indIY d)) s

end Sys2Proof.Machine
end

