-- ==== Sys2Proof/Machine/Rotate.lean ====
section
/-! DEFINITION. Rotates and shifts (43_rotate_shift.md). -/

namespace Sys2Proof.Machine

/-- RLCA, RRCA, RLA, RRA (R141 to R144): the rotate of A with the short flag tail. -/
def rotateA (op : RotOp) (s : State) : State :=
  let (v, c) := rotateByte op s.a s.f.c
  { s with a := v, f := s.f.rotA s.policy v c }.charge tRotateA

/-- A prefixed rotate or shift of the operand m (R145 to R152). -/
def rotatePlace (op : RotOp) (m : Place8) (s : State) : State :=
  let (x, s1) := s.readPlace m
  let (v, c) := rotateByte op x s.f.c
  let s2 := s1.writePlace m v
  { s2 with f := s.f.rot s.policy v c }.charge (tRotate m)

/-- `RLCA` (R141). -/
def execRlca (s : State) : Result :=
  .next (rotateA .rlc s)

/-- `RRCA` (R142). -/
def execRrca (s : State) : Result :=
  .next (rotateA .rrc s)

/-- `RLA` (R143). -/
def execRla (s : State) : Result :=
  .next (rotateA .rl s)

/-- `RRA` (R144). -/
def execRra (s : State) : Result :=
  .next (rotateA .rr s)

/-- `RLC B` (R145). -/
def execRlcB (s : State) : Result :=
  onZ80 0xCB 2 (rotatePlace .rlc (.reg .b)) s

/-- `RLC C` (R145). -/
def execRlcC (s : State) : Result :=
  onZ80 0xCB 2 (rotatePlace .rlc (.reg .c)) s

/-- `RLC D` (R145). -/
def execRlcD (s : State) : Result :=
  onZ80 0xCB 2 (rotatePlace .rlc (.reg .d)) s

/-- `RLC E` (R145). -/
def execRlcE (s : State) : Result :=
  onZ80 0xCB 2 (rotatePlace .rlc (.reg .e)) s

/-- `RLC H` (R145). -/
def execRlcH (s : State) : Result :=
  onZ80 0xCB 2 (rotatePlace .rlc (.reg .h)) s

/-- `RLC L` (R145). -/
def execRlcL (s : State) : Result :=
  onZ80 0xCB 2 (rotatePlace .rlc (.reg .l)) s

/-- `RLC (HL)` (R145). -/
def execRlcIndHL (s : State) : Result :=
  onZ80 0xCB 2 (rotatePlace .rlc .indHL) s

/-- `RLC A` (R145). -/
def execRlcA (s : State) : Result :=
  onZ80 0xCB 2 (rotatePlace .rlc (.reg .a)) s

/-- `RRC B` (R146). -/
def execRrcB (s : State) : Result :=
  onZ80 0xCB 2 (rotatePlace .rrc (.reg .b)) s

/-- `RRC C` (R146). -/
def execRrcC (s : State) : Result :=
  onZ80 0xCB 2 (rotatePlace .rrc (.reg .c)) s

/-- `RRC D` (R146). -/
def execRrcD (s : State) : Result :=
  onZ80 0xCB 2 (rotatePlace .rrc (.reg .d)) s

/-- `RRC E` (R146). -/
def execRrcE (s : State) : Result :=
  onZ80 0xCB 2 (rotatePlace .rrc (.reg .e)) s

/-- `RRC H` (R146). -/
def execRrcH (s : State) : Result :=
  onZ80 0xCB 2 (rotatePlace .rrc (.reg .h)) s

/-- `RRC L` (R146). -/
def execRrcL (s : State) : Result :=
  onZ80 0xCB 2 (rotatePlace .rrc (.reg .l)) s

/-- `RRC (HL)` (R146). -/
def execRrcIndHL (s : State) : Result :=
  onZ80 0xCB 2 (rotatePlace .rrc .indHL) s

/-- `RRC A` (R146). -/
def execRrcA (s : State) : Result :=
  onZ80 0xCB 2 (rotatePlace .rrc (.reg .a)) s

/-- `RL B` (R147). -/
def execRlB (s : State) : Result :=
  onZ80 0xCB 2 (rotatePlace .rl (.reg .b)) s

/-- `RL C` (R147). -/
def execRlC (s : State) : Result :=
  onZ80 0xCB 2 (rotatePlace .rl (.reg .c)) s

/-- `RL D` (R147). -/
def execRlD (s : State) : Result :=
  onZ80 0xCB 2 (rotatePlace .rl (.reg .d)) s

/-- `RL E` (R147). -/
def execRlE (s : State) : Result :=
  onZ80 0xCB 2 (rotatePlace .rl (.reg .e)) s

/-- `RL H` (R147). -/
def execRlH (s : State) : Result :=
  onZ80 0xCB 2 (rotatePlace .rl (.reg .h)) s

/-- `RL L` (R147). -/
def execRlL (s : State) : Result :=
  onZ80 0xCB 2 (rotatePlace .rl (.reg .l)) s

/-- `RL (HL)` (R147). -/
def execRlIndHL (s : State) : Result :=
  onZ80 0xCB 2 (rotatePlace .rl .indHL) s

/-- `RL A` (R147). -/
def execRlA (s : State) : Result :=
  onZ80 0xCB 2 (rotatePlace .rl (.reg .a)) s

/-- `RR B` (R148). -/
def execRrB (s : State) : Result :=
  onZ80 0xCB 2 (rotatePlace .rr (.reg .b)) s

/-- `RR C` (R148). -/
def execRrC (s : State) : Result :=
  onZ80 0xCB 2 (rotatePlace .rr (.reg .c)) s

/-- `RR D` (R148). -/
def execRrD (s : State) : Result :=
  onZ80 0xCB 2 (rotatePlace .rr (.reg .d)) s

/-- `RR E` (R148). -/
def execRrE (s : State) : Result :=
  onZ80 0xCB 2 (rotatePlace .rr (.reg .e)) s

/-- `RR H` (R148). -/
def execRrH (s : State) : Result :=
  onZ80 0xCB 2 (rotatePlace .rr (.reg .h)) s

/-- `RR L` (R148). -/
def execRrL (s : State) : Result :=
  onZ80 0xCB 2 (rotatePlace .rr (.reg .l)) s

/-- `RR (HL)` (R148). -/
def execRrIndHL (s : State) : Result :=
  onZ80 0xCB 2 (rotatePlace .rr .indHL) s

/-- `RR A` (R148). -/
def execRrA (s : State) : Result :=
  onZ80 0xCB 2 (rotatePlace .rr (.reg .a)) s

/-- `SLA B` (R149). -/
def execSlaB (s : State) : Result :=
  onZ80 0xCB 2 (rotatePlace .sla (.reg .b)) s

/-- `SLA C` (R149). -/
def execSlaC (s : State) : Result :=
  onZ80 0xCB 2 (rotatePlace .sla (.reg .c)) s

/-- `SLA D` (R149). -/
def execSlaD (s : State) : Result :=
  onZ80 0xCB 2 (rotatePlace .sla (.reg .d)) s

/-- `SLA E` (R149). -/
def execSlaE (s : State) : Result :=
  onZ80 0xCB 2 (rotatePlace .sla (.reg .e)) s

/-- `SLA H` (R149). -/
def execSlaH (s : State) : Result :=
  onZ80 0xCB 2 (rotatePlace .sla (.reg .h)) s

/-- `SLA L` (R149). -/
def execSlaL (s : State) : Result :=
  onZ80 0xCB 2 (rotatePlace .sla (.reg .l)) s

/-- `SLA (HL)` (R149). -/
def execSlaIndHL (s : State) : Result :=
  onZ80 0xCB 2 (rotatePlace .sla .indHL) s

/-- `SLA A` (R149). -/
def execSlaA (s : State) : Result :=
  onZ80 0xCB 2 (rotatePlace .sla (.reg .a)) s

/-- `SRA B` (R150). -/
def execSraB (s : State) : Result :=
  onZ80 0xCB 2 (rotatePlace .sra (.reg .b)) s

/-- `SRA C` (R150). -/
def execSraC (s : State) : Result :=
  onZ80 0xCB 2 (rotatePlace .sra (.reg .c)) s

/-- `SRA D` (R150). -/
def execSraD (s : State) : Result :=
  onZ80 0xCB 2 (rotatePlace .sra (.reg .d)) s

/-- `SRA E` (R150). -/
def execSraE (s : State) : Result :=
  onZ80 0xCB 2 (rotatePlace .sra (.reg .e)) s

/-- `SRA H` (R150). -/
def execSraH (s : State) : Result :=
  onZ80 0xCB 2 (rotatePlace .sra (.reg .h)) s

/-- `SRA L` (R150). -/
def execSraL (s : State) : Result :=
  onZ80 0xCB 2 (rotatePlace .sra (.reg .l)) s

/-- `SRA (HL)` (R150). -/
def execSraIndHL (s : State) : Result :=
  onZ80 0xCB 2 (rotatePlace .sra .indHL) s

/-- `SRA A` (R150). -/
def execSraA (s : State) : Result :=
  onZ80 0xCB 2 (rotatePlace .sra (.reg .a)) s

/-- `SLL B` (R151). -/
def execSllB (s : State) : Result :=
  onZ80 0xCB 2 (rotatePlace .sll (.reg .b)) s

/-- `SLL C` (R151). -/
def execSllC (s : State) : Result :=
  onZ80 0xCB 2 (rotatePlace .sll (.reg .c)) s

/-- `SLL D` (R151). -/
def execSllD (s : State) : Result :=
  onZ80 0xCB 2 (rotatePlace .sll (.reg .d)) s

/-- `SLL E` (R151). -/
def execSllE (s : State) : Result :=
  onZ80 0xCB 2 (rotatePlace .sll (.reg .e)) s

/-- `SLL H` (R151). -/
def execSllH (s : State) : Result :=
  onZ80 0xCB 2 (rotatePlace .sll (.reg .h)) s

/-- `SLL L` (R151). -/
def execSllL (s : State) : Result :=
  onZ80 0xCB 2 (rotatePlace .sll (.reg .l)) s

/-- `SLL (HL)` (R151). -/
def execSllIndHL (s : State) : Result :=
  onZ80 0xCB 2 (rotatePlace .sll .indHL) s

/-- `SLL A` (R151). -/
def execSllA (s : State) : Result :=
  onZ80 0xCB 2 (rotatePlace .sll (.reg .a)) s

/-- `SRL B` (R152). -/
def execSrlB (s : State) : Result :=
  onZ80 0xCB 2 (rotatePlace .srl (.reg .b)) s

/-- `SRL C` (R152). -/
def execSrlC (s : State) : Result :=
  onZ80 0xCB 2 (rotatePlace .srl (.reg .c)) s

/-- `SRL D` (R152). -/
def execSrlD (s : State) : Result :=
  onZ80 0xCB 2 (rotatePlace .srl (.reg .d)) s

/-- `SRL E` (R152). -/
def execSrlE (s : State) : Result :=
  onZ80 0xCB 2 (rotatePlace .srl (.reg .e)) s

/-- `SRL H` (R152). -/
def execSrlH (s : State) : Result :=
  onZ80 0xCB 2 (rotatePlace .srl (.reg .h)) s

/-- `SRL L` (R152). -/
def execSrlL (s : State) : Result :=
  onZ80 0xCB 2 (rotatePlace .srl (.reg .l)) s

/-- `SRL (HL)` (R152). -/
def execSrlIndHL (s : State) : Result :=
  onZ80 0xCB 2 (rotatePlace .srl .indHL) s

/-- `SRL A` (R152). -/
def execSrlA (s : State) : Result :=
  onZ80 0xCB 2 (rotatePlace .srl (.reg .a)) s

/-- `RLC (IX+d)` (R145). -/
def execRlcIndIX (d : Byte) (s : State) : Result :=
  onZ80 0xDD 4 (rotatePlace .rlc (.indIX d)) s

/-- `RRC (IX+d)` (R146). -/
def execRrcIndIX (d : Byte) (s : State) : Result :=
  onZ80 0xDD 4 (rotatePlace .rrc (.indIX d)) s

/-- `RL (IX+d)` (R147). -/
def execRlIndIX (d : Byte) (s : State) : Result :=
  onZ80 0xDD 4 (rotatePlace .rl (.indIX d)) s

/-- `RR (IX+d)` (R148). -/
def execRrIndIX (d : Byte) (s : State) : Result :=
  onZ80 0xDD 4 (rotatePlace .rr (.indIX d)) s

/-- `SLA (IX+d)` (R149). -/
def execSlaIndIX (d : Byte) (s : State) : Result :=
  onZ80 0xDD 4 (rotatePlace .sla (.indIX d)) s

/-- `SRA (IX+d)` (R150). -/
def execSraIndIX (d : Byte) (s : State) : Result :=
  onZ80 0xDD 4 (rotatePlace .sra (.indIX d)) s

/-- `SLL (IX+d)` (R151). -/
def execSllIndIX (d : Byte) (s : State) : Result :=
  onZ80 0xDD 4 (rotatePlace .sll (.indIX d)) s

/-- `SRL (IX+d)` (R152). -/
def execSrlIndIX (d : Byte) (s : State) : Result :=
  onZ80 0xDD 4 (rotatePlace .srl (.indIX d)) s

/-- `RLC (IY+d)` (R145). -/
def execRlcIndIY (d : Byte) (s : State) : Result :=
  onZ80 0xFD 4 (rotatePlace .rlc (.indIY d)) s

/-- `RRC (IY+d)` (R146). -/
def execRrcIndIY (d : Byte) (s : State) : Result :=
  onZ80 0xFD 4 (rotatePlace .rrc (.indIY d)) s

/-- `RL (IY+d)` (R147). -/
def execRlIndIY (d : Byte) (s : State) : Result :=
  onZ80 0xFD 4 (rotatePlace .rl (.indIY d)) s

/-- `RR (IY+d)` (R148). -/
def execRrIndIY (d : Byte) (s : State) : Result :=
  onZ80 0xFD 4 (rotatePlace .rr (.indIY d)) s

/-- `SLA (IY+d)` (R149). -/
def execSlaIndIY (d : Byte) (s : State) : Result :=
  onZ80 0xFD 4 (rotatePlace .sla (.indIY d)) s

/-- `SRA (IY+d)` (R150). -/
def execSraIndIY (d : Byte) (s : State) : Result :=
  onZ80 0xFD 4 (rotatePlace .sra (.indIY d)) s

/-- `SLL (IY+d)` (R151). -/
def execSllIndIY (d : Byte) (s : State) : Result :=
  onZ80 0xFD 4 (rotatePlace .sll (.indIY d)) s

/-- `SRL (IY+d)` (R152). -/
def execSrlIndIY (d : Byte) (s : State) : Result :=
  onZ80 0xFD 4 (rotatePlace .srl (.indIY d)) s

end Sys2Proof.Machine
end

