-- ==== Sys2Proof/Machine/Stack.lean ====
section
/-! DEFINITION. PUSH, POP and the exchange with the top of the stack (47_stack.md). -/

namespace Sys2Proof.Machine

/-- PUSH (R190, R192). -/
def pushReg (q : StackReg) (s : State) : State := (s.push16 (s.stackReg q)).charge (tPush q)

/-- POP (R191, R193). -/
def popReg (q : StackReg) (s : State) : State :=
  (s.pop16.2.setStackReg q s.pop16.1).charge (tPop q)

/-- EX (SP),HL / IX / IY (R194, R195): both bytes are read, then both are written; SP stays. -/
def exchangeTop (x : Base16) (s : State) : State :=
  let (w, s1) := s.memRead2 s.sp
  let s2 := (s1.memWrite s.sp (lo8 (s.base x))).memWrite (s.sp + 1#16) (hi8 (s.base x))
  (s2.setBase x w).charge (tExchange s.policy x)

/-- `POP BC` (R191). -/
def execPopBC (s : State) : Result :=
  .next (popReg .bc s)

/-- `POP DE` (R191). -/
def execPopDE (s : State) : Result :=
  .next (popReg .de s)

/-- `POP HL` (R191). -/
def execPopHL (s : State) : Result :=
  .next (popReg .hl s)

/-- `POP AF` (R191). -/
def execPopAF (s : State) : Result :=
  .next (popReg .af s)

/-- `PUSH BC` (R190). -/
def execPushBC (s : State) : Result :=
  .next (pushReg .bc s)

/-- `PUSH DE` (R190). -/
def execPushDE (s : State) : Result :=
  .next (pushReg .de s)

/-- `PUSH HL` (R190). -/
def execPushHL (s : State) : Result :=
  .next (pushReg .hl s)

/-- `PUSH AF` (R190). -/
def execPushAF (s : State) : Result :=
  .next (pushReg .af s)

/-- `EX (SP),HL` (R194). -/
def execExSPHL (s : State) : Result :=
  .next (exchangeTop .hl s)

/-- `POP IX` (R193). -/
def execPopIX (s : State) : Result :=
  onZ80 0xDD 2 (popReg .ix) s

/-- `PUSH IX` (R192). -/
def execPushIX (s : State) : Result :=
  onZ80 0xDD 2 (pushReg .ix) s

/-- `POP IY` (R193). -/
def execPopIY (s : State) : Result :=
  onZ80 0xFD 2 (popReg .iy) s

/-- `PUSH IY` (R192). -/
def execPushIY (s : State) : Result :=
  onZ80 0xFD 2 (pushReg .iy) s

/-- `EX (SP),IX` (R195). -/
def execExSPIX (s : State) : Result :=
  onZ80 0xDD 2 (exchangeTop .ix) s

/-- `EX (SP),IY` (R195). -/
def execExSPIY (s : State) : Result :=
  onZ80 0xFD 2 (exchangeTop .iy) s

end Sys2Proof.Machine
end

