-- ==== Sys2Proof/Machine/System.lean ====
section
/-! DEFINITION. HALT (48_system.md). STOP has no row and no behaviour (R201; log 11). -/

namespace Sys2Proof.Machine

/-- HALT (R200): `halted <- 1` and nothing else; the block goes on if it is stepped again. -/
def haltBlock (s : State) : State := { s with halted := true }.charge (tHalt s.policy)

/-- `HALT` (R200). -/
def execHalt (s : State) : Result :=
  .next (haltBlock s)

end Sys2Proof.Machine
end

