-- ==== Sys2Proof/Machine/Dispatch.lean ====
section
/-! DEFINITION. `exec`: one arm per constructor of `Instr`, each one call of the instruction's own
meaning. -/

namespace Sys2Proof.Machine

/-- The rule an instruction's row names, performed with PC already at the byte after the instruction
(30_encoding.md R79). -/
def exec (i : Instr) (s : State) : Host.Outcome State Fault Refusal :=
  match i with
  | .incBC => Sys2Proof.Machine.execIncBC s
  | .incDE => Sys2Proof.Machine.execIncDE s
  | .incHL => Sys2Proof.Machine.execIncHL s
  | .incSP => Sys2Proof.Machine.execIncSP s
  | .decBC => Sys2Proof.Machine.execDecBC s
  | .decDE => Sys2Proof.Machine.execDecDE s
  | .decHL => Sys2Proof.Machine.execDecHL s
  | .decSP => Sys2Proof.Machine.execDecSP s
  | .incB => Sys2Proof.Machine.execIncB s
  | .incC => Sys2Proof.Machine.execIncC s
  | .incD => Sys2Proof.Machine.execIncD s
  | .incE => Sys2Proof.Machine.execIncE s
  | .incH => Sys2Proof.Machine.execIncH s
  | .incL => Sys2Proof.Machine.execIncL s
  | .incIndHL => Sys2Proof.Machine.execIncIndHL s
  | .incA => Sys2Proof.Machine.execIncA s
  | .decB => Sys2Proof.Machine.execDecB s
  | .decC => Sys2Proof.Machine.execDecC s
  | .decD => Sys2Proof.Machine.execDecD s
  | .decE => Sys2Proof.Machine.execDecE s
  | .decH => Sys2Proof.Machine.execDecH s
  | .decL => Sys2Proof.Machine.execDecL s
  | .decIndHL => Sys2Proof.Machine.execDecIndHL s
  | .decA => Sys2Proof.Machine.execDecA s
  | .rlca => Sys2Proof.Machine.execRlca s
  | .rrca => Sys2Proof.Machine.execRrca s
  | .rla => Sys2Proof.Machine.execRla s
  | .rra => Sys2Proof.Machine.execRra s
  | .addHLBC => Sys2Proof.Machine.execAddHLBC s
  | .addHLDE => Sys2Proof.Machine.execAddHLDE s
  | .addHLHL => Sys2Proof.Machine.execAddHLHL s
  | .addHLSP => Sys2Proof.Machine.execAddHLSP s
  | .daa => Sys2Proof.Machine.execDaa s
  | .halt => Sys2Proof.Machine.execHalt s
  | .addAB => Sys2Proof.Machine.execAddAB s
  | .addAC => Sys2Proof.Machine.execAddAC s
  | .addAD => Sys2Proof.Machine.execAddAD s
  | .addAE => Sys2Proof.Machine.execAddAE s
  | .addAH => Sys2Proof.Machine.execAddAH s
  | .addAL => Sys2Proof.Machine.execAddAL s
  | .addAIndHL => Sys2Proof.Machine.execAddAIndHL s
  | .addAA => Sys2Proof.Machine.execAddAA s
  | .adcAB => Sys2Proof.Machine.execAdcAB s
  | .adcAC => Sys2Proof.Machine.execAdcAC s
  | .adcAD => Sys2Proof.Machine.execAdcAD s
  | .adcAE => Sys2Proof.Machine.execAdcAE s
  | .adcAH => Sys2Proof.Machine.execAdcAH s
  | .adcAL => Sys2Proof.Machine.execAdcAL s
  | .adcAIndHL => Sys2Proof.Machine.execAdcAIndHL s
  | .adcAA => Sys2Proof.Machine.execAdcAA s
  | .subB => Sys2Proof.Machine.execSubB s
  | .subC => Sys2Proof.Machine.execSubC s
  | .subD => Sys2Proof.Machine.execSubD s
  | .subE => Sys2Proof.Machine.execSubE s
  | .subH => Sys2Proof.Machine.execSubH s
  | .subL => Sys2Proof.Machine.execSubL s
  | .subIndHL => Sys2Proof.Machine.execSubIndHL s
  | .subA => Sys2Proof.Machine.execSubA s
  | .sbcAB => Sys2Proof.Machine.execSbcAB s
  | .sbcAC => Sys2Proof.Machine.execSbcAC s
  | .sbcAD => Sys2Proof.Machine.execSbcAD s
  | .sbcAE => Sys2Proof.Machine.execSbcAE s
  | .sbcAH => Sys2Proof.Machine.execSbcAH s
  | .sbcAL => Sys2Proof.Machine.execSbcAL s
  | .sbcAIndHL => Sys2Proof.Machine.execSbcAIndHL s
  | .sbcAA => Sys2Proof.Machine.execSbcAA s
  | .andB => Sys2Proof.Machine.execAndB s
  | .andC => Sys2Proof.Machine.execAndC s
  | .andD => Sys2Proof.Machine.execAndD s
  | .andE => Sys2Proof.Machine.execAndE s
  | .andH => Sys2Proof.Machine.execAndH s
  | .andL => Sys2Proof.Machine.execAndL s
  | .andIndHL => Sys2Proof.Machine.execAndIndHL s
  | .andA => Sys2Proof.Machine.execAndA s
  | .xorB => Sys2Proof.Machine.execXorB s
  | .xorC => Sys2Proof.Machine.execXorC s
  | .xorD => Sys2Proof.Machine.execXorD s
  | .xorE => Sys2Proof.Machine.execXorE s
  | .xorH => Sys2Proof.Machine.execXorH s
  | .xorL => Sys2Proof.Machine.execXorL s
  | .xorIndHL => Sys2Proof.Machine.execXorIndHL s
  | .xorA => Sys2Proof.Machine.execXorA s
  | .orB => Sys2Proof.Machine.execOrB s
  | .orC => Sys2Proof.Machine.execOrC s
  | .orD => Sys2Proof.Machine.execOrD s
  | .orE => Sys2Proof.Machine.execOrE s
  | .orH => Sys2Proof.Machine.execOrH s
  | .orL => Sys2Proof.Machine.execOrL s
  | .orIndHL => Sys2Proof.Machine.execOrIndHL s
  | .orA => Sys2Proof.Machine.execOrA s
  | .cpB => Sys2Proof.Machine.execCpB s
  | .cpC => Sys2Proof.Machine.execCpC s
  | .cpD => Sys2Proof.Machine.execCpD s
  | .cpE => Sys2Proof.Machine.execCpE s
  | .cpH => Sys2Proof.Machine.execCpH s
  | .cpL => Sys2Proof.Machine.execCpL s
  | .cpIndHL => Sys2Proof.Machine.execCpIndHL s
  | .cpA => Sys2Proof.Machine.execCpA s
  | .addAImm n => Sys2Proof.Machine.execAddAImm n s
  | .adcAImm n => Sys2Proof.Machine.execAdcAImm n s
  | .subImm n => Sys2Proof.Machine.execSubImm n s
  | .sbcAImm n => Sys2Proof.Machine.execSbcAImm n s
  | .andImm n => Sys2Proof.Machine.execAndImm n s
  | .xorImm n => Sys2Proof.Machine.execXorImm n s
  | .orImm n => Sys2Proof.Machine.execOrImm n s
  | .cpImm n => Sys2Proof.Machine.execCpImm n s
  | .retNZ => Sys2Proof.Machine.execRetNZ s
  | .retZ => Sys2Proof.Machine.execRetZ s
  | .retNC => Sys2Proof.Machine.execRetNC s
  | .retC => Sys2Proof.Machine.execRetC s
  | .retPO => Sys2Proof.Machine.execRetPO s
  | .retPE => Sys2Proof.Machine.execRetPE s
  | .retP => Sys2Proof.Machine.execRetP s
  | .retM => Sys2Proof.Machine.execRetM s
  | .ret => Sys2Proof.Machine.execRet s
  | .jpNZ nn => Sys2Proof.Machine.execJpNZ nn s
  | .jpZ nn => Sys2Proof.Machine.execJpZ nn s
  | .jpNC nn => Sys2Proof.Machine.execJpNC nn s
  | .jpC nn => Sys2Proof.Machine.execJpC nn s
  | .jpPO nn => Sys2Proof.Machine.execJpPO nn s
  | .jpPE nn => Sys2Proof.Machine.execJpPE nn s
  | .jpP nn => Sys2Proof.Machine.execJpP nn s
  | .jpM nn => Sys2Proof.Machine.execJpM nn s
  | .jp nn => Sys2Proof.Machine.execJp nn s
  | .callNZ nn => Sys2Proof.Machine.execCallNZ nn s
  | .callZ nn => Sys2Proof.Machine.execCallZ nn s
  | .callNC nn => Sys2Proof.Machine.execCallNC nn s
  | .callC nn => Sys2Proof.Machine.execCallC nn s
  | .callPO nn => Sys2Proof.Machine.execCallPO nn s
  | .callPE nn => Sys2Proof.Machine.execCallPE nn s
  | .callP nn => Sys2Proof.Machine.execCallP nn s
  | .callM nn => Sys2Proof.Machine.execCallM nn s
  | .call nn => Sys2Proof.Machine.execCall nn s
  | .rst00 => Sys2Proof.Machine.execRst00 s
  | .rst08 => Sys2Proof.Machine.execRst08 s
  | .rst10 => Sys2Proof.Machine.execRst10 s
  | .rst18 => Sys2Proof.Machine.execRst18 s
  | .rst20 => Sys2Proof.Machine.execRst20 s
  | .rst28 => Sys2Proof.Machine.execRst28 s
  | .rst30 => Sys2Proof.Machine.execRst30 s
  | .rst38 => Sys2Proof.Machine.execRst38 s
  | .popBC => Sys2Proof.Machine.execPopBC s
  | .popDE => Sys2Proof.Machine.execPopDE s
  | .popHL => Sys2Proof.Machine.execPopHL s
  | .popAF => Sys2Proof.Machine.execPopAF s
  | .pushBC => Sys2Proof.Machine.execPushBC s
  | .pushDE => Sys2Proof.Machine.execPushDE s
  | .pushHL => Sys2Proof.Machine.execPushHL s
  | .pushAF => Sys2Proof.Machine.execPushAF s
  | .exSPHL => Sys2Proof.Machine.execExSPHL s
  | .rlcB => Sys2Proof.Machine.execRlcB s
  | .rlcC => Sys2Proof.Machine.execRlcC s
  | .rlcD => Sys2Proof.Machine.execRlcD s
  | .rlcE => Sys2Proof.Machine.execRlcE s
  | .rlcH => Sys2Proof.Machine.execRlcH s
  | .rlcL => Sys2Proof.Machine.execRlcL s
  | .rlcIndHL => Sys2Proof.Machine.execRlcIndHL s
  | .rlcA => Sys2Proof.Machine.execRlcA s
  | .rrcB => Sys2Proof.Machine.execRrcB s
  | .rrcC => Sys2Proof.Machine.execRrcC s
  | .rrcD => Sys2Proof.Machine.execRrcD s
  | .rrcE => Sys2Proof.Machine.execRrcE s
  | .rrcH => Sys2Proof.Machine.execRrcH s
  | .rrcL => Sys2Proof.Machine.execRrcL s
  | .rrcIndHL => Sys2Proof.Machine.execRrcIndHL s
  | .rrcA => Sys2Proof.Machine.execRrcA s
  | .rlB => Sys2Proof.Machine.execRlB s
  | .rlC => Sys2Proof.Machine.execRlC s
  | .rlD => Sys2Proof.Machine.execRlD s
  | .rlE => Sys2Proof.Machine.execRlE s
  | .rlH => Sys2Proof.Machine.execRlH s
  | .rlL => Sys2Proof.Machine.execRlL s
  | .rlIndHL => Sys2Proof.Machine.execRlIndHL s
  | .rlA => Sys2Proof.Machine.execRlA s
  | .rrB => Sys2Proof.Machine.execRrB s
  | .rrC => Sys2Proof.Machine.execRrC s
  | .rrD => Sys2Proof.Machine.execRrD s
  | .rrE => Sys2Proof.Machine.execRrE s
  | .rrH => Sys2Proof.Machine.execRrH s
  | .rrL => Sys2Proof.Machine.execRrL s
  | .rrIndHL => Sys2Proof.Machine.execRrIndHL s
  | .rrA => Sys2Proof.Machine.execRrA s
  | .slaB => Sys2Proof.Machine.execSlaB s
  | .slaC => Sys2Proof.Machine.execSlaC s
  | .slaD => Sys2Proof.Machine.execSlaD s
  | .slaE => Sys2Proof.Machine.execSlaE s
  | .slaH => Sys2Proof.Machine.execSlaH s
  | .slaL => Sys2Proof.Machine.execSlaL s
  | .slaIndHL => Sys2Proof.Machine.execSlaIndHL s
  | .slaA => Sys2Proof.Machine.execSlaA s
  | .sraB => Sys2Proof.Machine.execSraB s
  | .sraC => Sys2Proof.Machine.execSraC s
  | .sraD => Sys2Proof.Machine.execSraD s
  | .sraE => Sys2Proof.Machine.execSraE s
  | .sraH => Sys2Proof.Machine.execSraH s
  | .sraL => Sys2Proof.Machine.execSraL s
  | .sraIndHL => Sys2Proof.Machine.execSraIndHL s
  | .sraA => Sys2Proof.Machine.execSraA s
  | .sllB => Sys2Proof.Machine.execSllB s
  | .sllC => Sys2Proof.Machine.execSllC s
  | .sllD => Sys2Proof.Machine.execSllD s
  | .sllE => Sys2Proof.Machine.execSllE s
  | .sllH => Sys2Proof.Machine.execSllH s
  | .sllL => Sys2Proof.Machine.execSllL s
  | .sllIndHL => Sys2Proof.Machine.execSllIndHL s
  | .sllA => Sys2Proof.Machine.execSllA s
  | .srlB => Sys2Proof.Machine.execSrlB s
  | .srlC => Sys2Proof.Machine.execSrlC s
  | .srlD => Sys2Proof.Machine.execSrlD s
  | .srlE => Sys2Proof.Machine.execSrlE s
  | .srlH => Sys2Proof.Machine.execSrlH s
  | .srlL => Sys2Proof.Machine.execSrlL s
  | .srlIndHL => Sys2Proof.Machine.execSrlIndHL s
  | .srlA => Sys2Proof.Machine.execSrlA s
  | .sbcHLBC => Sys2Proof.Machine.execSbcHLBC s
  | .sbcHLDE => Sys2Proof.Machine.execSbcHLDE s
  | .sbcHLHL => Sys2Proof.Machine.execSbcHLHL s
  | .sbcHLSP => Sys2Proof.Machine.execSbcHLSP s
  | .adcHLBC => Sys2Proof.Machine.execAdcHLBC s
  | .adcHLDE => Sys2Proof.Machine.execAdcHLDE s
  | .adcHLHL => Sys2Proof.Machine.execAdcHLHL s
  | .adcHLSP => Sys2Proof.Machine.execAdcHLSP s
  | .addIXBC => Sys2Proof.Machine.execAddIXBC s
  | .addIXDE => Sys2Proof.Machine.execAddIXDE s
  | .addIXIX => Sys2Proof.Machine.execAddIXIX s
  | .addIXSP => Sys2Proof.Machine.execAddIXSP s
  | .addIYBC => Sys2Proof.Machine.execAddIYBC s
  | .addIYDE => Sys2Proof.Machine.execAddIYDE s
  | .addIYIY => Sys2Proof.Machine.execAddIYIY s
  | .addIYSP => Sys2Proof.Machine.execAddIYSP s
  | .incIX => Sys2Proof.Machine.execIncIX s
  | .decIX => Sys2Proof.Machine.execDecIX s
  | .incIY => Sys2Proof.Machine.execIncIY s
  | .decIY => Sys2Proof.Machine.execDecIY s
  | .incIndIX d => Sys2Proof.Machine.execIncIndIX d s
  | .decIndIX d => Sys2Proof.Machine.execDecIndIX d s
  | .incIndIY d => Sys2Proof.Machine.execIncIndIY d s
  | .decIndIY d => Sys2Proof.Machine.execDecIndIY d s
  | .addAIndIX d => Sys2Proof.Machine.execAddAIndIX d s
  | .adcAIndIX d => Sys2Proof.Machine.execAdcAIndIX d s
  | .subIndIX d => Sys2Proof.Machine.execSubIndIX d s
  | .sbcAIndIX d => Sys2Proof.Machine.execSbcAIndIX d s
  | .andIndIX d => Sys2Proof.Machine.execAndIndIX d s
  | .xorIndIX d => Sys2Proof.Machine.execXorIndIX d s
  | .orIndIX d => Sys2Proof.Machine.execOrIndIX d s
  | .cpIndIX d => Sys2Proof.Machine.execCpIndIX d s
  | .addAIndIY d => Sys2Proof.Machine.execAddAIndIY d s
  | .adcAIndIY d => Sys2Proof.Machine.execAdcAIndIY d s
  | .subIndIY d => Sys2Proof.Machine.execSubIndIY d s
  | .sbcAIndIY d => Sys2Proof.Machine.execSbcAIndIY d s
  | .andIndIY d => Sys2Proof.Machine.execAndIndIY d s
  | .xorIndIY d => Sys2Proof.Machine.execXorIndIY d s
  | .orIndIY d => Sys2Proof.Machine.execOrIndIY d s
  | .cpIndIY d => Sys2Proof.Machine.execCpIndIY d s
  | .popIX => Sys2Proof.Machine.execPopIX s
  | .pushIX => Sys2Proof.Machine.execPushIX s
  | .popIY => Sys2Proof.Machine.execPopIY s
  | .pushIY => Sys2Proof.Machine.execPushIY s
  | .exSPIX => Sys2Proof.Machine.execExSPIX s
  | .exSPIY => Sys2Proof.Machine.execExSPIY s
  | .rlcIndIX d => Sys2Proof.Machine.execRlcIndIX d s
  | .rrcIndIX d => Sys2Proof.Machine.execRrcIndIX d s
  | .rlIndIX d => Sys2Proof.Machine.execRlIndIX d s
  | .rrIndIX d => Sys2Proof.Machine.execRrIndIX d s
  | .slaIndIX d => Sys2Proof.Machine.execSlaIndIX d s
  | .sraIndIX d => Sys2Proof.Machine.execSraIndIX d s
  | .sllIndIX d => Sys2Proof.Machine.execSllIndIX d s
  | .srlIndIX d => Sys2Proof.Machine.execSrlIndIX d s
  | .rlcIndIY d => Sys2Proof.Machine.execRlcIndIY d s
  | .rrcIndIY d => Sys2Proof.Machine.execRrcIndIY d s
  | .rlIndIY d => Sys2Proof.Machine.execRlIndIY d s
  | .rrIndIY d => Sys2Proof.Machine.execRrIndIY d s
  | .slaIndIY d => Sys2Proof.Machine.execSlaIndIY d s
  | .sraIndIY d => Sys2Proof.Machine.execSraIndIY d s
  | .sllIndIY d => Sys2Proof.Machine.execSllIndIY d s
  | .srlIndIY d => Sys2Proof.Machine.execSrlIndIY d s

end Sys2Proof.Machine
end

