-- ==== Sys2Proof/Machine/Fetch.lean ====
section
/-! DEFINITION. The fetch and decode half of the sequencer (30_encoding.md R79), and where the host's
word of opcode_table.json is put for the next fetch. -/

namespace Sys2Proof.Machine

/-- What the sequencer finds at PC: an instruction, with PC already past it, or a decode error taken. -/
inductive Fetched where
  | decoded (i : Instr) (s : State)
  | undecodable (s : State)
deriving DecidableEq, Repr

/-- The bytes of the instruction at PC are read once each at ascending addresses modulo 65536, before
anything else happens; then a row is chosen (R79). -/
def State.fetch (s : State) : Fetched :=
  let b0 := s.byteAt s.pc
  let len := fetchLength s.policy b0 ((s.memRead s.pc).2.byteAt (s.pc + 1#16))
  let (bytes, s1) := s.clearOutputs.readBytes len s.pc
  match decode s.policy bytes with
  | .ok (i, _) => .decoded i { s1 with pc := s.pc + BitVec.ofNat 16 i.length }
  | .error _ => .undecodable (s1.takeDecodeError s.pc b0)

/-- An environment in which the `n` bytes from `addr` on are RAM: `env` itself where it has memory there. -/
def withMemoryAt (env : Environment) (addr : Word) (n : Nat) : Environment :=
  if (List.range n).all fun k => (Environment.kindAt env (addr + BitVec.ofNat 16 k)).isMemory then env
  else ⟨addr, n, .ram⟩ :: env

/-- The host's launch of one instruction: its bytes stand in memory where the next step fetches, and the
latch that would keep the block from fetching is clear (log 4). -/
def State.loadWord (s : State) (nbits w : Nat) : State :=
  { s with
    mem := Memory.load s.mem s.pc (tableBytes nbits w)
    env := withMemoryAt s.env s.pc (tableBytes nbits w).length
    fault := none }

end Sys2Proof.Machine
end

