-- ==== Sys2Proof/Machine/Step.lean ====
section
/-! DEFINITION. One step of the block: one whole instruction (00_scope.md R9, 30_encoding.md R79). -/

namespace Sys2Proof.Machine

/-- One step. While the decode-error latch is set there is none (60_exceptions.md R215); a decode error
sets the latch; otherwise the decoded instruction's rule is performed. -/
def step (s : State) : Host.Outcome State Fault Refusal :=
  match s.fault with
  | some r => .fault (.stuck r)
  | none =>
    match s.fetch with
    | .decoded i s1 => exec i s1
    | .undecodable s1 => .next s1

/-- `s` with the instruction whose bits are `w` stored where `step` fetches next (log 4). -/
def State.withFetchWord (s : State) (nbits w : Nat) : State := s.loadWord nbits w

end Sys2Proof.Machine
end

