-- ==== Sys2Proof/Safety.lean ====
section
/-! DEFINITION. When a run ends and what a safe run is (70_reset_and_hazards.md R235, D31). -/

namespace Sys2Proof.Machine

/-- The normal end of a run: a HALT has executed (R235). -/
def State.normalEnd (s : State) : Bool := s.halted && s.fault.isNone

/-- The error end of a run: a decode error (R235). -/
def State.errorEnd (s : State) : Bool := s.fault.isSome

/-- A run ends at the first state with `halted` = 1 or `fault` set (R235). -/
def State.ended (s : State) : Bool := s.halted || s.fault.isSome

/-- The run from `s`: at most `fuel` steps, none after the end (R235). -/
def runToEnd : Nat → State → Result
  | 0, s => .next s
  | fuel + 1, s =>
    if s.ended then .next s
    else
      match step s with
      | .next t => runToEnd fuel t
      | .fault r => .fault r
      | .refused r => .refused r

/-- No run of at most `fuel` steps from `s` meets a decode error or stops. -/
def SafeFor (fuel : Nat) (s : State) : Prop :=
  ∀ k, k ≤ fuel → ∃ t, runToEnd k s = .next t ∧ t.errorEnd = false

/-- Both stores are in canonical form, and what the policy does not have is inert: under `I8080` the flags
N, F5 and F3 are clear and IX and IY are zero (10_state.md R23, R26). -/
def State.Inv (s : State) : Prop :=
  s.mem.wf = true ∧ s.io.portsWf = true ∧
    (s.policy = .i8080 →
      s.f.n = false ∧ s.f.f5 = false ∧ s.f.f3 = false ∧ s.ix = 0 ∧ s.iy = 0)

end Sys2Proof.Machine
end

