-- ==== Sys2Proof/Certificates/Slice0/Obligations.lean ====
section
/-! DEFINITION. The statements for the provers. The names in `Sys2Proof.Claims` say in exact natural and
integer arithmetic, or bit by bit, what the spec's rules say; they do not call the flag functions, ALU
primitives or instruction helpers of the model. What they use of the model is: reading a register, pair,
flag or byte (`reg8`, `pair`, `base`, `ss`, `byteAt`, `wordAt`), an operand's value and effective address
(`srcValue`, `placeValue`, `ea`), and the functions from an operation and its operands to the constructor
(`Instr.alu`, `Instr.rot`, …), whose rows each statement pins by `IsRow`. What an operand stands for is said
once, in `OperandsAreWhatTheyName` and `EffectiveAddressOfOperand`, and what an access does in
`MemoryAndPortAccesses`. The accesses of a step are read in `out.bus`, the model's own record of them (log 6).
Every statement holds under every environment `ENV_MEM`: what RAM, ROM, holes and devices do is log 5, and
what a hole or a device answers is a free value (log 13). -/

namespace Sys2Proof.Claims

open Sys2Proof.Machine

/-! ### Rows -/

/-- `i` is the row with these bytes; `both` says whether `I8080` admits it beside `Z80`. -/
def IsRow (i : Instr) (bytes : List Byte) (both : Bool) : Prop :=
  encode i = bytes ∧ ∀ p, i.wf p = (both || p == .z80)

/-- The number of a register in the field r (30_encoding.md R72). -/
def regCode : Reg8 → Nat
  | .b => 0
  | .c => 1
  | .d => 2
  | .e => 3
  | .h => 4
  | .l => 5
  | .a => 7

/-- The number of a condition in the field cc (R74). -/
def condCode : Cond → Nat
  | .nz => 0
  | .z => 1
  | .nc => 2
  | .c => 3
  | .po => 4
  | .pe => 5
  | .p => 6
  | .m => 7

/-- The number of a pair in the fields ss, pp, rr (R73). -/
def ssCode : Ss → Nat
  | .bc => 0
  | .de => 1
  | .own => 2
  | .sp => 3

/-- The bytes of `alu A,s` with operation number `o` (41 R110). -/
def aluRow (o : Nat) : Src8 → List Byte
  | .loc (.reg r) => [BitVec.ofNat 8 (0x80 + 8 * o + regCode r)]
  | .loc .indHL => [BitVec.ofNat 8 (0x86 + 8 * o)]
  | .imm n => [BitVec.ofNat 8 (0xC6 + 8 * o), n]
  | .loc (.indIX d) => [0xDD#8, BitVec.ofNat 8 (0x86 + 8 * o), d]
  | .loc (.indIY d) => [0xFD#8, BitVec.ofNat 8 (0x86 + 8 * o), d]

/-- The bytes of INC m (`base` = 04) and DEC m (`base` = 05) (42 §1). -/
def incDecRow (base : Nat) : Place8 → List Byte
  | .reg r => [BitVec.ofNat 8 (base + 8 * regCode r)]
  | .indHL => [BitVec.ofNat 8 (base + 0x30)]
  | .indIX d => [0xDD#8, BitVec.ofNat 8 (base + 0x30), d]
  | .indIY d => [0xFD#8, BitVec.ofNat 8 (base + 0x30), d]

/-- The bytes of INC ss (`base` = 03) and DEC ss (`base` = 0B) (42 §2). -/
def incDecPairRow (base : Nat) : Pair16 → List Byte
  | .bc => [BitVec.ofNat 8 base]
  | .de => [BitVec.ofNat 8 (base + 0x10)]
  | .hl => [BitVec.ofNat 8 (base + 0x20)]
  | .sp => [BitVec.ofNat 8 (base + 0x30)]
  | .ix => [0xDD#8, BitVec.ofNat 8 (base + 0x20)]
  | .iy => [0xFD#8, BitVec.ofNat 8 (base + 0x20)]

/-- The bytes of the prefixed rotates and shifts with operation number `k` (43 R140). -/
def rotRow (k : Nat) : Place8 → List Byte
  | .reg r => [0xCB#8, BitVec.ofNat 8 (8 * k + regCode r)]
  | .indHL => [0xCB#8, BitVec.ofNat 8 (8 * k + 6)]
  | .indIX d => [0xDD#8, 0xCB#8, d, BitVec.ofNat 8 (8 * k + 6)]
  | .indIY d => [0xFD#8, 0xCB#8, d, BitVec.ofNat 8 (8 * k + 6)]

/-- The bytes of PUSH (`base` = C5) and POP (`base` = C1) (47 R190 to R193). -/
def stackRow (base : Nat) : StackReg → List Byte
  | .bc => [BitVec.ofNat 8 base]
  | .de => [BitVec.ofNat 8 (base + 0x10)]
  | .hl => [BitVec.ofNat 8 (base + 0x20)]
  | .af => [BitVec.ofNat 8 (base + 0x30)]
  | .ix => [0xDD#8, BitVec.ofNat 8 (base + 0x20)]
  | .iy => [0xFD#8, BitVec.ofNat 8 (base + 0x20)]

/-- A one-byte row after the byte that names HL, IX or IY (30_encoding.md R70). -/
def baseRow (x : Base16) (b : Byte) : List Byte :=
  match x with
  | .hl => [b]
  | .ix => [0xDD#8, b]
  | .iy => [0xFD#8, b]

/-! ### Flags -/

/-- The number of one-bits in the low 8 bits is even. -/
def EvenOnes {w : Nat} (r : BitVec w) : Prop := (List.range 8).countP (fun k => r.getLsbD k) % 2 = 0

/-- Z and S of a result: all bits zero, top bit set. -/
def ZeroSign {w : Nat} (r : BitVec w) (g : Flags) : Prop :=
  (g.z = true ↔ r.toNat = 0) ∧ (g.s = true ↔ 2 ^ (w - 1) ≤ r.toNat)

/-- A signed value lies outside the two's-complement range of `w` bits. -/
def OutOfRange (w : Nat) (x : Int) : Prop := x < -(2 ^ (w - 1)) ∨ 2 ^ (w - 1) ≤ x

/-- F5 and F3 as before. -/
def KeepsUndocumented (f g : Flags) : Prop := g.f5 = f.f5 ∧ g.f3 = f.f3

/-- The flags `g` after `a + b + cin` gave `r`, `f` being those before (40 R102). -/
def SumFlags {w : Nat} (p : Policy) (a b : BitVec w) (cin : Bool) (r : BitVec w) (f g : Flags) : Prop :=
  (g.c = true ↔ 2 ^ w ≤ a.toNat + b.toNat + cin.toNat) ∧
  (g.h = true ↔ 2 ^ (w - 4) ≤ a.toNat % 2 ^ (w - 4) + b.toNat % 2 ^ (w - 4) + cin.toNat) ∧
  ZeroSign r g ∧
  (p = .z80 → (g.pv = true ↔ OutOfRange w (a.toInt + b.toInt + cin.toNat)) ∧ g.n = false) ∧
  (p = .i8080 → (g.pv = true ↔ EvenOnes r) ∧ g.n = f.n) ∧
  KeepsUndocumented f g

/-- C, H, Z, S, PV and N after `a - b - bin` gave `r` (40 R103). -/
def DifferenceFlags {w : Nat} (p : Policy) (a b : BitVec w) (bin : Bool) (r : BitVec w) (f g : Flags) :
    Prop :=
  (g.c = true ↔ a.toNat < b.toNat + bin.toNat) ∧
  (g.h = true ↔ a.toNat % 2 ^ (w - 4) < b.toNat % 2 ^ (w - 4) + bin.toNat) ∧
  ZeroSign r g ∧
  (p = .z80 → (g.pv = true ↔ OutOfRange w (a.toInt - b.toInt - bin.toNat)) ∧ g.n = true) ∧
  (p = .i8080 → (g.pv = true ↔ EvenOnes r) ∧ g.n = f.n)

/-- The flags after a logical operation gave `r`, `half` being its half-carry (40 R104). -/
def LogicFlags (p : Policy) (r : Byte) (half : Bool) (f g : Flags) : Prop :=
  g.c = false ∧ g.h = half ∧ ZeroSign r g ∧ (g.pv = true ↔ EvenOnes r) ∧
  g.n = (if p = .z80 then false else f.n) ∧ KeepsUndocumented f g

/-- C, H, N, F5 and F3 after a rotate or shift gave `v` and `out` left the operand (43 R140). -/
def RotateFlags (p : Policy) (v : Byte) (out : Bool) (f g : Flags) : Prop :=
  g.c = out ∧ g.h = false ∧
  (p = .z80 → g.n = false ∧ g.f5 = v.getLsbD 5 ∧ g.f3 = v.getLsbD 3) ∧
  (p = .i8080 → g.n = f.n ∧ KeepsUndocumented f g)

/-- The condition holds (46 R175). -/
def Tests (f : Flags) : Cond → Prop
  | .nz => f.z = false
  | .z => f.z = true
  | .nc => f.c = false
  | .c => f.c = true
  | .po => f.pv = false
  | .pe => f.pv = true
  | .p => f.s = false
  | .m => f.s = true

/-- The flag bits of a byte, bit 7 first: S Z F5 H F3 PV N C (10_state.md R27). -/
def FlagBits (p : Policy) (b : Byte) (f : Flags) : Prop :=
  b.getLsbD 7 = f.s ∧ b.getLsbD 6 = f.z ∧ b.getLsbD 4 = f.h ∧ b.getLsbD 2 = f.pv ∧ b.getLsbD 0 = f.c ∧
  (p = .z80 → b.getLsbD 5 = f.f5 ∧ b.getLsbD 3 = f.f3 ∧ b.getLsbD 1 = f.n) ∧
  (p = .i8080 → b.getLsbD 5 = false ∧ b.getLsbD 3 = false ∧ b.getLsbD 1 = true)

/-- The flags loaded from a byte: the policy's flags from its bits, the others as before (R27). -/
def LoadsFlags (p : Policy) (b : Byte) (f g : Flags) : Prop :=
  g.s = b.getLsbD 7 ∧ g.z = b.getLsbD 6 ∧ g.h = b.getLsbD 4 ∧ g.pv = b.getLsbD 2 ∧ g.c = b.getLsbD 0 ∧
  (p = .z80 → g.f5 = b.getLsbD 5 ∧ g.f3 = b.getLsbD 3 ∧ g.n = b.getLsbD 1) ∧
  (p = .i8080 → g.f5 = f.f5 ∧ g.f3 = f.f3 ∧ g.n = f.n)

/-! ### Rotates (43) -/

/-- The value after the operand `m` was moved by one bit, `cin` being the carry before. -/
def rotated (op : RotOp) (m : Nat) (cin : Bool) : Nat :=
  match op with
  | .rlc => (2 * m + m / 128) % 256
  | .rrc => m / 2 + 128 * (m % 2)
  | .rl => (2 * m + cin.toNat) % 256
  | .rr => m / 2 + 128 * cin.toNat
  | .sla => 2 * m % 256
  | .sra => m / 2 + 128 * (m / 128)
  | .sll => (2 * m + 1) % 256
  | .srl => m / 2

/-- The bit that left the operand. -/
def rotatedOut (op : RotOp) (m : Nat) : Bool :=
  match op with
  | .rlc | .rl | .sla | .sll => decide (128 ≤ m)
  | .rrc | .rr | .sra | .srl => decide (m % 2 = 1)

/-- The operation number k (30_encoding.md R76). -/
def rotCode : RotOp → Nat
  | .rlc => 0
  | .rrc => 1
  | .rl => 2
  | .rr => 3
  | .sla => 4
  | .sra => 5
  | .sll => 6
  | .srl => 7

/-! ### Frames and accesses -/

/-- The accesses `l`, in this order and no others, were made: they are the outputs added, and those that a hole
or a device answers are the ones it has seen in addition (20_memory.md R55; log 6, 13). -/
def Accesses (l : List Access) (s t : State) : Prop :=
  t.out.bus = s.out.bus ++ l ∧ t.envHistory = s.envHistory ++ l.filter s.outside

/-- Every byte of memory reads as before, and the same is attached everywhere. What a hole or a device answers
next follows from the accesses it has seen, which `Accesses` says. -/
def KeepsMemory (s t : State) : Prop :=
  t.env = s.env ∧ ∀ x, (s.kindAt x).isMemory = true → t.byteAt x = s.byteAt x

/-- Everything but A, the flags and the step's accesses is as before. -/
def OnlyAF (s t : State) : Prop :=
  t = { s with a := t.a, f := t.f, out := t.out, envHistory := t.envHistory } ∧ KeepsMemory s t

/-- Everything but the flags and the step's accesses is as before. -/
def OnlyF (s t : State) : Prop :=
  t = { s with f := t.f, out := t.out, envHistory := t.envHistory } ∧ KeepsMemory s t

/-- The operand m, and of registers and memory nothing else, took the value `v`; a memory operand takes it where
RAM is attached at its effective address. -/
def WrotePlace (m : Place8) (v : Byte) (s t : State) : Prop :=
  (∀ q, m = .reg q → t.reg8 q = v) ∧ (∀ q, m ≠ .reg q → t.reg8 q = s.reg8 q) ∧
  (∀ x, (s.kindAt x).isMemory = true →
    t.byteAt x = if s.ea m = some x ∧ s.kindAt x = .ram then v else s.byteAt x) ∧
  t.ix = s.ix ∧ t.iy = s.iy ∧ t.sp = s.sp ∧ t.pc = s.pc ∧ t.policy = s.policy ∧ t.env = s.env ∧
  t.halted = s.halted ∧ t.fault = s.fault ∧ t.io = s.io

/-- The pair `q`, and of registers and memory nothing else, took the value `w`. -/
def WrotePair (q : Pair16) (w : Word) (s t : State) : Prop :=
  t.pair q = w ∧ (∀ q', q' ≠ q → t.pair q' = s.pair q') ∧ t.a = s.a ∧ KeepsMemory s t ∧
  t.pc = s.pc ∧ t.policy = s.policy ∧ t.halted = s.halted ∧ t.fault = s.fault ∧ t.io = s.io

/-- HL, IX or IY as a pair that INC and DEC name. -/
def basePair : Base16 → Pair16
  | .hl => .hl
  | .ix => .ix
  | .iy => .iy

/-- The reads an operand m makes: one at its effective address, none for a register. -/
def placeReads (s : State) (m : Place8) : List Access :=
  match s.ea m with
  | some x => [.memRead x (s.byteAt x)]
  | none => []

/-- The write an operand m makes: one at its effective address, none for a register. -/
def placeWrites (s : State) (m : Place8) (v : Byte) : List Access :=
  match s.ea m with
  | some x => [.memWrite x v]
  | none => []

/-- The reads a source operand makes; an immediate was fetched with the instruction. -/
def srcReads (s : State) : Src8 → List Access
  | .loc m => placeReads s m
  | .imm _ => []

/-- The word `w` was pushed: the high byte at SP-1, then the low byte at SP-2, each held where RAM is
attached, and SP is lower by 2 (20_memory.md R65). -/
def Pushed (w : Word) (s t : State) : Prop :=
  t.sp = s.sp - 2#16 ∧ t.env = s.env ∧
  (∀ x, (s.kindAt x).isMemory = true →
    t.byteAt x =
      if s.kindAt x = .ram ∧ x = s.sp - 1#16 then hi8 w
      else if s.kindAt x = .ram ∧ x = s.sp - 2#16 then lo8 w
      else s.byteAt x) ∧
  Accesses [.memWrite (s.sp - 1#16) (hi8 w), .memWrite (s.sp - 2#16) (lo8 w)] s t

/-- Everything but SP, PC, memory and the accesses is as before. -/
def OnlyCalls (s t : State) : Prop :=
  t = { s with sp := t.sp, pc := t.pc, mem := t.mem, out := t.out, envHistory := t.envHistory }

/-- Everything but SP, PC and the accesses is as before. -/
def OnlyReturns (s t : State) : Prop :=
  t = { s with sp := t.sp, pc := t.pc, out := t.out, envHistory := t.envHistory }

/-- The byte that the first read of a pop gives, at SP. -/
def topLow (s : State) : Byte := s.byteAt s.sp

/-- The byte that the second read of a pop gives, at SP+1: a hole or a device has seen the first. -/
def topHigh (s : State) : Byte :=
  let seen := [Access.memRead s.sp (topLow s)].filter s.outside
  { s with envHistory := s.envHistory ++ seen }.byteAt (s.sp + 1#16)

/-- The two reads of a pop, the low byte first (20_memory.md R66). -/
def topReads (s : State) : List Access :=
  [.memRead s.sp (topLow s), .memRead (s.sp + 1#16) (topHigh s)]

/-- The word at SP was popped and SP is higher by 2 (20_memory.md R66). -/
def Popped (s t : State) : Prop := t.sp = s.sp + 2#16 ∧ KeepsMemory s t ∧ Accesses (topReads s) s t

/-- The reads of the `n` bytes of an instruction at PC, in order. -/
def fetchReads (s : State) (n : Nat) : List Access :=
  (s.bytesAt n s.pc).mapIdx fun k v => .memRead (s.pc + BitVec.ofNat 16 k) v

/-- The state in which the rule of a decoded instruction `n` bytes long is performed: PC is past the
instruction, its fetch is what has been accessed, all else is as before (30_encoding.md R79). -/
def afterFetch (s : State) (n : Nat) : State :=
  { s with
    pc := s.pc + BitVec.ofNat 16 n
    out := ⟨none, fetchReads s n⟩
    envHistory := s.envHistory ++ (fetchReads s n).filter s.outside }

/-! ### Groups of instructions -/

/-- CALL nn, CALL cc,nn or RST t. -/
def IsCall (i : Instr) : Prop :=
  (∃ nn, i = .call nn) ∨ (∃ cc nn, i = .callCond cc nn) ∨ (∃ t, i = .rst t)

/-- RET or RET cc. -/
def IsReturn (i : Instr) : Prop := i = .ret ∨ ∃ cc, i = .retCond cc

/-- JP nn or JP cc,nn. -/
def IsJump (i : Instr) : Prop := (∃ nn, i = .jp nn) ∨ ∃ cc nn, i = .jpCond cc nn

/-- The integer a byte stands for as a two's-complement number (00_scope.md R11, `sext_16`). -/
def signedByte (d : Byte) : Int := if d.toNat < 128 then d.toNat else (d.toNat : Int) - 256

/-- The packed-BCD byte of a number below 100. -/
def bcd (x : Nat) : Byte := BitVec.ofNat 8 (16 * (x / 10) + x % 10)

end Sys2Proof.Claims

open Sys2Proof Sys2Proof.Machine Sys2Proof.Claims

/-! ### Encoding -/

/-- Every instruction a policy admits, with every operand, decodes from its encoding, whatever bytes
follow (30_encoding.md R70 to R81).
The encodings are the spec's decision D2. -/
def Obligations.DecodeOfEncodeIsTheInstruction : Prop :=
  ∀ (p : Policy) (i : Instr) (rest : List Byte),
    i.wf p = true → decode p (encode i ++ rest) = .ok (i, rest)

/-- Whatever the decoder accepts is the encoding of a row the policy admits, followed by the bytes it
gives back: no byte is dropped and no unassigned sequence falls through to a row (R79, R82).
What is unassigned is the spec's decision D25, D26. -/
def Obligations.DecodedBytesAreTheEncoding : Prop :=
  ∀ (p : Policy) (bytes : List Byte) (i : Instr) (rest : List Byte),
    decode p bytes = .ok (i, rest) → i.wf p = true ∧ bytes = encode i ++ rest

/-- No two rows match the same bytes, and none is the beginning of another (30_encoding.md R79: "at
most one row matches"). -/
def Obligations.AtMostOneRowMatches : Prop :=
  ∀ (i j : Instr) (r r' : List Byte), encode i ++ r = encode j ++ r' → i = j ∧ r = r'

/-- The policy subsets (30_encoding.md R81): `Z80` admits every row, `I8080` exactly the unprefixed
formats, and under it CB, DD, ED and FD are unassigned whatever follows. -/
def Obligations.PolicySubsets : Prop :=
  (∀ i : Instr, i.wf .z80 = true) ∧
  (∀ i : Instr, i.wf .i8080 = true ↔ i.format = .op ∨ i.format = .opN ∨ i.format = .opNN) ∧
  (∀ (b : Byte) (rest : List Byte), b = 0xCB#8 ∨ b = 0xDD#8 ∨ b = 0xED#8 ∨ b = 0xFD#8 →
    decode .i8080 (b :: rest) = .error (.unassignedOp b))

/-- Words written out from 30_encoding.md R71 decode to the instruction they stand for, one of each
format, and byte 00 is unassigned (R82). -/
def Obligations.PublishedWordsDecode : Prop :=
  decode .z80 [0x86#8] = .ok (.addAIndHL, []) ∧
  decode .z80 [0xDE#8, 0x2A#8] = .ok (.sbcAImm 0x2A#8, []) ∧
  decode .i8080 [0xD4#8, 0x00#8, 0x30#8] = .ok (.callNC 0x3000#16, []) ∧
  decode .z80 [0xCB#8, 0x1B#8] = .ok (.rrE, []) ∧
  decode .z80 [0xED#8, 0x52#8] = .ok (.sbcHLDE, []) ∧
  decode .z80 [0xFD#8, 0x29#8] = .ok (.addIYIY, []) ∧
  decode .z80 [0xDD#8, 0x35#8, 0xFD#8] = .ok (.decIndIX 0xFD#8, []) ∧
  decode .z80 [0xDD#8, 0xCB#8, 0xFF#8, 0x3E#8] = .ok (.srlIndIX 0xFF#8, []) ∧
  decode .z80 [0x00#8] = .error (.unassignedOp 0x00#8)

/-! ### The sequencer, the decode error and reset -/

/-- When the four bytes at PC begin with an instruction of the policy, a step is `exec` of it in the
state that differs only by PC being past the instruction and by the fetch being the step's output so
far (30_encoding.md R79). Four bytes are the longest instruction (R70).
The sequencer is the spec's decision D3; that State holds the outputs is the model's choice (log 6). -/
def Obligations.StepRunsTheDecodedInstruction : Prop :=
  ∀ (s : State) (i : Instr) (rest : List Byte), s.fault = none →
    decode s.policy (s.bytesAt 4 s.pc) = .ok (i, rest) →
    step s = exec i (afterFetch s i.length)

/-- A decode error (60_exceptions.md R211, R212, R215): the latch holds the address and value of the
first byte, no count is output, at most the four bytes of the search for a row were read, nothing else
changes, and no later step happens.
The record and the stuck state are the spec's decision D17. -/
def Obligations.DecodeErrorEntry : Prop :=
  ∀ (s : State) (e : Reject), s.fault = none → decode s.policy (s.bytesAt 4 s.pc) = .error e →
    ∃ t n, step s = .next t ∧ t.fault = some ⟨s.pc, s.byteAt s.pc⟩ ∧ t.decodeError = true ∧
      1 ≤ n ∧ n ≤ 4 ∧ t.out = ⟨none, fetchReads s n⟩ ∧
      t.envHistory = s.envHistory ++ (fetchReads s n).filter s.outside ∧
      t = { s with fault := t.fault, out := t.out, envHistory := t.envHistory } ∧ KeepsMemory s t ∧
      step t = .fault (.stuck ⟨s.pc, s.byteAt s.pc⟩)

/-- The fault state is left only by reset (60_exceptions.md R216, 70 R230): there is no step while the
latch is set; after the reset input PC is 0 and there is one. The spec's decisions D17, D20; that reset
takes the unspecified values as an argument is the model's choice (log 8). -/
def Obligations.OnlyResetLeavesTheFaultState : Prop :=
  ∀ (s : State) (r : FaultRecord), s.fault = some r →
    step s = .fault (.stuck r) ∧
    ∀ launch : State, (s.applyReset launch).pc = 0x0000#16 ∧ ∃ t, step (s.applyReset launch) = .next t

/-- Reset (10_state.md R35, 70 R230): PC, `halted` and `fault` take their values, memory and ports are
untouched, and each register and flag can be any value.
The spec's decision D20; the argument for the unspecified values is the model's choice (log 8). -/
def Obligations.ResetInputValues : Prop :=
  ∀ (launch s : State),
    (s.applyReset launch).pc = 0x0000#16 ∧ (s.applyReset launch).halted = false ∧
    (s.applyReset launch).fault = none ∧ KeepsMemory s (s.applyReset launch) ∧
    (s.applyReset launch).io = s.io ∧ (s.applyReset launch).policy = s.policy ∧
    (s.applyReset launch).envHistory = s.envHistory ∧
    (∀ r, (s.applyReset launch).reg8 r = launch.reg8 r) ∧
    (s.applyReset launch).ix = launch.ix ∧ (s.applyReset launch).iy = launch.iy ∧
    (s.applyReset launch).sp = launch.sp ∧ (s.applyReset launch).f = launch.f

/-- The state the model names as the one after reset: PC, `halted` and `fault` are the spec's (10_state.md
R35). That its policy is the reference one, that its registers and flags are zero, that its memory and
ports list nothing and read as zero, that it shows no output, and that its environment is plain RAM, the
spec's default, of which nothing has been asked, are the model's choice (log 1, 2, 3, 5, 6, 13). -/
def Obligations.ResetStateValues : Prop :=
  State.reset.pc = 0x0000#16 ∧ State.reset.halted = false ∧ State.reset.fault = none ∧
  State.reset.policy = .z80 ∧ (∀ r, State.reset.reg8 r = 0#8) ∧
  State.reset.ix = 0x0000#16 ∧ State.reset.iy = 0x0000#16 ∧ State.reset.sp = 0x0000#16 ∧
  State.reset.f.c = false ∧ State.reset.f.h = false ∧ State.reset.f.z = false ∧
  State.reset.f.s = false ∧ State.reset.f.pv = false ∧ State.reset.f.n = false ∧
  State.reset.f.f5 = false ∧ State.reset.f.f3 = false ∧
  State.reset.mem = [] ∧ (∀ x, State.reset.byteAt x = 0x00#8) ∧
  State.reset.io = [] ∧ (∀ port, (State.reset.ioRead port).1 = 0x00#8) ∧
  State.reset.out.cycles = none ∧ State.reset.out.bus = [] ∧
  State.reset.env = [] ∧ (∀ x, State.reset.kindAt x = .ram) ∧ State.reset.envHistory = []

/-- No instruction raises anything (60_exceptions.md R210, 00_scope.md R13): every instruction of the
policy answers a next state with the latch as it was, in every state. -/
def Obligations.InstructionsRaiseNothing : Prop :=
  ∀ (i : Instr) (s : State), i.wf s.policy = true → ∃ t, exec i s = .next t ∧ t.fault = s.fault

/-- The decode error is raised by no instruction, only by the absence of one (60_exceptions.md R211): a
step that can be made sets the latch exactly if the bytes at PC decode to nothing. -/
def Obligations.OnlyMissingRowsRaiseTheError : Prop :=
  ∀ s : State, s.fault = none →
    ∃ t, step s = .next t ∧
      (t.fault ≠ none ↔ ∃ e, decode s.policy (s.bytesAt 4 s.pc) = .error e)

/-- Under `I8080` a `Z80`-only instruction traps: the decode error is taken at its first byte, which lies
its own length before PC (60_exceptions.md R211, 30_encoding.md R81). A step never gets there, because
the decoder refuses the byte first; that `exec` itself answers so is the model's choice (log 9). -/
def Obligations.PrefixedRowsTrapOnI8080 : Prop :=
  ∀ (i : Instr) (s : State), s.policy = .i8080 → i.z80Only = true →
    ∃ t, exec i s = .next t ∧ t.pc = s.pc - BitVec.ofNat 16 (encode i).length ∧
      t.fault = some ⟨t.pc, (encode i).headD 0#8⟩ ∧
      t = { s with pc := t.pc, fault := t.fault, out := t.out }

/-! ### Invariants -/

/-- Every step keeps the invariant `State.Inv`: memory and ports stay in canonical form and, under
`I8080`, what that policy does not have stays clear or zero. Both are the model's representation, not the
spec's: the canonical list of cells is log 3, the fields that stand for absent `I8080` state are log 7. -/
def Obligations.StepKeepsTheInvariant : Prop :=
  ∀ s t : State, s.Inv → step s = .next t → t.Inv

/-- The invariant holds after reset. It rests on the values the model names there and on
its representation (log 2, 3, 7). -/
def Obligations.ResetMeetsTheInvariant : Prop := State.reset.Inv

/-- Under `I8080` the flags N, F5 and F3 and the registers IX and IY do not exist (10_state.md R23, R26):
no step changes what stands for them, whatever it is (log 7). -/
def Obligations.AbsentStateIsInertOnI8080 : Prop :=
  ∀ s t : State, s.policy = .i8080 → step s = .next t →
    t.f.n = s.f.n ∧ t.f.f5 = s.f.f5 ∧ t.f.f3 = s.f.f3 ∧ t.ix = s.ix ∧ t.iy = s.iy

/-- No step changes the policy, what the environment attaches where (00_scope.md R6) or the I/O space: "No
instruction in this spec's scope reaches it" (10_state.md R34). That State holds the policy and the environment
is the model's choice (log 1, 5). -/
def Obligations.PolicyAndPortsNeverChange : Prop :=
  ∀ s t : State, step s = .next t → t.policy = s.policy ∧ t.env = s.env ∧ t.io = s.io

/-- `halted` is set by HALT and by nothing else and cleared by no instruction (10_state.md R30).
The spec's decision D21. -/
def Obligations.HaltedIsSetByHaltAlone : Prop :=
  ∀ (i : Instr) (s t : State), exec i s = .next t → t.halted = (s.halted || i == .halt)

/-! ### What nothing reads -/

/-- No rule reads `halted` (10_state.md R30, 48 R200): a step with another value there does the same to
everything else.
The spec's decision D21. -/
def Obligations.HaltedIsReadByNothing : Prop :=
  ∀ (s t : State) (b : Bool), step s = .next t →
    ∃ b', step { s with halted := b } = .next { t with halted := b' }

/-- `cycles` and the transactions are outputs only: "no register, flag, memory cell or branch decision in
any rule of this spec depends on it" (70 R233). That State holds them is the model's choice (log 6). -/
def Obligations.OutputsAreReadByNothing : Prop :=
  ∀ (i : Instr) (s t : State) (o : Outputs), exec i s = .next t →
    ∃ o', exec i { s with out := o } = .next { t with out := o' }

/-- F5 and F3 are read by PUSH AF alone (10_state.md R28): any other instruction does the same to
everything but them, whatever they are. -/
def Obligations.UndocumentedFlagsAreReadByPushAFAlone : Prop :=
  ∀ (i : Instr) (s t : State) (x y : Bool), i ≠ .pushAF → exec i s = .next t →
    ∃ x' y', exec i { s with f := { s.f with f5 := x, f3 := y } } =
      .next { t with f := { t.f with f5 := x', f3 := y' } }

/-- N is read by DAA and PUSH AF alone (10_state.md R28, 40 R99): any other instruction does the same to
everything but it, whatever it is. -/
def Obligations.AddSubtractFlagIsReadByDaaAndPushAFAlone : Prop :=
  ∀ (i : Instr) (s t : State) (x : Bool), i ≠ .daa → i ≠ .pushAF → exec i s = .next t →
    ∃ x', exec i { s with f := { s.f with n := x } } = .next { t with f := { t.f with n := x' } }

/-! ### Who writes what -/

/-- Only the instructions R24 names write SP. -/
def Obligations.StackPointerWriters : Prop :=
  ∀ (i : Instr) (s t : State), exec i s = .next t → t.sp ≠ s.sp →
    IsCall i ∨ IsReturn i ∨ (∃ q, i = .push q) ∨ (∃ q, i = .pop q) ∨ i = .incSP ∨ i = .decSP

/-- Instructions other than the control transfers leave PC at the byte after the instruction (10_state.md
R25). -/
def Obligations.ProgramCounterWriters : Prop :=
  ∀ (i : Instr) (s t : State), i.wf s.policy = true → exec i s = .next t → t.pc ≠ s.pc →
    IsJump i ∨ IsCall i ∨ IsReturn i

/-- Only the instructions R23 names write IX and IY. -/
def Obligations.IndexRegisterWriters : Prop :=
  ∀ (i : Instr) (s t : State), exec i s = .next t →
    (t.ix ≠ s.ix → i = .pop .ix ∨ i = .inc16 .ix ∨ i = .dec16 .ix ∨
      (∃ q, i = .add16 .ix q) ∨ i = .exSP .ix) ∧
    (t.iy ≠ s.iy → i = .pop .iy ∨ i = .inc16 .iy ∨ i = .dec16 .iy ∨
      (∃ q, i = .add16 .iy q) ∨ i = .exSP .iy)

/-- Memory is written by the stacking instructions and by the read-modify-write forms on a memory
operand, and a read-modify-write form writes no byte but the one at its effective address
(20_memory.md R55); only RAM changes, ROM never (log 5). -/
def Obligations.MemoryWriters : Prop :=
  ∀ (i : Instr) (s t : State) (x : Word), exec i s = .next t → (s.kindAt x).isMemory = true →
    t.byteAt x ≠ s.byteAt x →
    s.kindAt x = .ram ∧
      (IsCall i ∨ (∃ q, i = .push q) ∨ (∃ b, i = .exSP b) ∨
        ∃ m, s.ea m = some x ∧ (i = .inc8 m ∨ i = .dec8 m ∨ ∃ op, i = .rot op m))

/-! ### Flag functions -/

/-- The packed flag byte (10_state.md R27): the bit positions, the fixed bits, and the round trips.
The layouts are the spec's
decision D4. -/
def Obligations.PackedFlagByte : Prop :=
  (∀ (p : Policy) (f : Flags), FlagBits p (f.toByte p) f) ∧
  (∀ (p : Policy) (b : Byte) (f : Flags), LoadsFlags p b f (f.ofByte p b)) ∧
  (∀ (b : Byte) (f : Flags), (f.ofByte .z80 b).toByte .z80 = b) ∧
  (∀ (f g : Flags), g.ofByte .z80 (f.toByte .z80) = f) ∧
  (∀ (b : Byte) (f : Flags), (f.ofByte .i8080 b).toByte .i8080 = (b &&& 0xD5#8) ||| 0x02#8) ∧
  (∀ f : Flags, f.ofByte .i8080 (f.toByte .i8080) = f)

/-- `alu_add_W` at every width the block uses (40 R102): the wrapped sum and every flag. -/
def Obligations.AddPrimitive : Prop :=
  ∀ (w : Nat) (p : Policy) (a b : BitVec w) (cin : Bool) (f : Flags), w = 8 ∨ w = 16 →
    (aluAdd p a b cin f).1.toNat = (a.toNat + b.toNat + cin.toNat) % 2 ^ w ∧
    SumFlags p a b cin (aluAdd p a b cin f).1 f (aluAdd p a b cin f).2

/-- `alu_sub_W` at every width the block uses (40 R103): the wrapped difference and every flag. -/
def Obligations.SubtractPrimitive : Prop :=
  ∀ (w : Nat) (p : Policy) (a b : BitVec w) (bin : Bool) (f : Flags), w = 8 ∨ w = 16 →
    ((aluSub p a b bin f).1.toNat : Int) = ((a.toNat : Int) - b.toNat - bin.toNat) % 2 ^ w ∧
    DifferenceFlags p a b bin (aluSub p a b bin f).1 f (aluSub p a b bin f).2 ∧
    KeepsUndocumented f (aluSub p a b bin f).2

/-! ### 8-bit arithmetic and logic (41) -/

/-- ADD A,s and ADC A,s in every form: the sum, every flag, the one read of a memory operand, and nothing
else (R110, R111, R112). Constructors: addAB to addAA, addAIndHL, addAImm, addAIndIX, addAIndIY, and the
same eleven of adcA. -/
def Obligations.AddAndAdcResult : Prop :=
  ∀ (carry : Bool) (src : Src8) (s : State), src.wf s.policy = true →
    let i := Instr.alu (if carry then .adc else .add) src
    let v := s.srcValue src
    let cin := carry && s.f.c
    IsRow i (aluRow carry.toNat src) (src.wf .i8080) ∧
    ∃ t, exec i s = .next t ∧ t.a.toNat = (s.a.toNat + v.toNat + cin.toNat) % 256 ∧
      SumFlags s.policy s.a v cin t.a s.f t.f ∧ OnlyAF s t ∧
      Accesses (srcReads s src) s t

/-- SUB s and SBC A,s in every form: the difference, every flag, the one read of a memory operand, and
nothing else (R110, R113, R114). Constructors: subB to subA, subIndHL, subImm, subIndIX, subIndIY, and the
same eleven of sbcA. -/
def Obligations.SubAndSbcResult : Prop :=
  ∀ (carry : Bool) (src : Src8) (s : State), src.wf s.policy = true →
    let i := Instr.alu (if carry then .sbc else .sub) src
    let v := s.srcValue src
    let bin := carry && s.f.c
    IsRow i (aluRow (2 + carry.toNat) src) (src.wf .i8080) ∧
    ∃ t, exec i s = .next t ∧ t.a.toNat = (s.a.toNat + 512 - v.toNat - bin.toNat) % 256 ∧
      DifferenceFlags s.policy s.a v bin t.a s.f t.f ∧ KeepsUndocumented s.f t.f ∧ OnlyAF s t ∧
      Accesses (srcReads s src) s t

/-- AND s in every form (R110, R115): half-carry 1 under `Z80`, bit 3 of A or the operand under `I8080`.
Constructors: andB to andA, andIndHL, andImm, andIndIX, andIndIY.
The `I8080` half-carry is
the spec's decision D8. -/
def Obligations.AndResult : Prop :=
  ∀ (src : Src8) (s : State), src.wf s.policy = true →
    let v := s.srcValue src
    let half := if s.policy = .z80 then true else s.a.getLsbD 3 || v.getLsbD 3
    IsRow (Instr.alu .and src) (aluRow 4 src) (src.wf .i8080) ∧
    ∃ t, exec (Instr.alu .and src) s = .next t ∧
      (∀ k, t.a.getLsbD k = (s.a.getLsbD k && v.getLsbD k)) ∧
      LogicFlags s.policy t.a half s.f t.f ∧ OnlyAF s t ∧ Accesses (srcReads s src) s t

/-- XOR s and OR s in every form (R110, R116, R117). Constructors: xorB to xorA, xorIndHL, xorImm,
xorIndIX, xorIndIY, and the same eleven of or. -/
def Obligations.XorAndOrResult : Prop :=
  ∀ (isOr : Bool) (src : Src8) (s : State), src.wf s.policy = true →
    let i := Instr.alu (if isOr then .or else .xor) src
    let v := s.srcValue src
    IsRow i (aluRow (5 + isOr.toNat) src) (src.wf .i8080) ∧
    ∃ t, exec i s = .next t ∧
      (∀ k, t.a.getLsbD k =
        if isOr then s.a.getLsbD k || v.getLsbD k else s.a.getLsbD k ^^ v.getLsbD k) ∧
      LogicFlags s.policy t.a false s.f t.f ∧ OnlyAF s t ∧ Accesses (srcReads s src) s t

/-- CP s in every form (R110, R118): the flags of A - s, bits 5 and 3 of the operand in F5 and F3 under
`Z80`, and A never changes. Constructors: cpB to cpA, cpIndHL, cpImm, cpIndIX, cpIndIY. -/
def Obligations.CompareResult : Prop :=
  ∀ (src : Src8) (s : State), src.wf s.policy = true →
    let v := s.srcValue src
    IsRow (Instr.alu .cp src) (aluRow 7 src) (src.wf .i8080) ∧
    ∃ t, exec (Instr.alu .cp src) s = .next t ∧
      DifferenceFlags s.policy s.a v false (s.a - v) s.f t.f ∧
      (s.policy = .z80 → t.f.f5 = v.getLsbD 5 ∧ t.f.f3 = v.getLsbD 3) ∧
      (s.policy = .i8080 → KeepsUndocumented s.f t.f) ∧ OnlyF s t ∧
      Accesses (srcReads s src) s t

/-! ### Increment and decrement (42) -/

/-- INC m in every form (R130): carry is kept; under `Z80` PV is set only at 7F. Constructors: incB to
incA, incIndHL, incIndIX, incIndIY.
That a memory operand in ROM keeps its byte, so that only RAM takes the result, is the model's choice
(log 5). -/
def Obligations.IncrementResult : Prop :=
  ∀ (m : Place8) (s : State), m.wf s.policy = true →
    let v := s.placeValue m
    IsRow (Instr.inc8 m) (incDecRow 0x04 m) (m.wf .i8080) ∧
    ∃ t r, exec (Instr.inc8 m) s = .next t ∧ r.toNat = (v.toNat + 1) % 256 ∧ WrotePlace m r s t ∧
      (t.f.h = true ↔ v.toNat % 16 = 15) ∧ ZeroSign r t.f ∧
      (s.policy = .z80 → (t.f.pv = true ↔ v = 0x7F#8) ∧ t.f.n = false) ∧
      (s.policy = .i8080 → (t.f.pv = true ↔ EvenOnes r) ∧ t.f.n = s.f.n) ∧
      t.f.c = s.f.c ∧ KeepsUndocumented s.f t.f ∧
      Accesses (placeReads s m ++ placeWrites s m r) s t

/-- DEC m in every form (R131): carry is kept; under `Z80` PV is set only at 80. Constructors: decB to
decA, decIndHL, decIndIX, decIndIY.
That a memory operand in ROM keeps its byte, so that only RAM takes the result, is the model's choice
(log 5). -/
def Obligations.DecrementResult : Prop :=
  ∀ (m : Place8) (s : State), m.wf s.policy = true →
    let v := s.placeValue m
    IsRow (Instr.dec8 m) (incDecRow 0x05 m) (m.wf .i8080) ∧
    ∃ t r, exec (Instr.dec8 m) s = .next t ∧ r.toNat = (v.toNat + 255) % 256 ∧ WrotePlace m r s t ∧
      (t.f.h = true ↔ v.toNat % 16 = 0) ∧ ZeroSign r t.f ∧
      (s.policy = .z80 → (t.f.pv = true ↔ v = 0x80#8) ∧ t.f.n = true) ∧
      (s.policy = .i8080 → (t.f.pv = true ↔ EvenOnes r) ∧ t.f.n = s.f.n) ∧
      t.f.c = s.f.c ∧ KeepsUndocumented s.f t.f ∧
      Accesses (placeReads s m ++ placeWrites s m r) s t

/-- INC ss and DEC ss (R132, R133): modulo 65536, no flag, no memory access. Constructors: incBC, incDE,
incHL, incSP, incIX, incIY, and the same six of dec. -/
def Obligations.PairIncrementAndDecrementResult : Prop :=
  ∀ (q : Pair16) (s : State), q.wf s.policy = true →
    IsRow (Instr.inc16 q) (incDecPairRow 0x03 q) (q.wf .i8080) ∧
    IsRow (Instr.dec16 q) (incDecPairRow 0x0B q) (q.wf .i8080) ∧
    (∃ t w, exec (Instr.inc16 q) s = .next t ∧ w.toNat = ((s.pair q).toNat + 1) % 65536 ∧
      WrotePair q w s t ∧ t.f = s.f ∧ Accesses [] s t) ∧
    ∃ t w, exec (Instr.dec16 q) s = .next t ∧ w.toNat = ((s.pair q).toNat + 65535) % 65536 ∧
      WrotePair q w s t ∧ t.f = s.f ∧ Accesses [] s t

/-! ### Rotates and shifts (43) -/

/-- RLCA, RRCA, RLA, RRA (R140 to R144): A moved by one bit, the short flag tail, Z, S and PV kept.
Constructors: rlca, rrca, rla, rra. -/
def Obligations.AccumulatorRotateResult : Prop :=
  ∀ (op : RotOp) (i : Instr) (s : State),
    (op, i) ∈ [(RotOp.rlc, Instr.rlca), (RotOp.rrc, Instr.rrca), (RotOp.rl, Instr.rla),
      (RotOp.rr, Instr.rra)] →
    IsRow i [BitVec.ofNat 8 (0x07 + 8 * rotCode op)] true ∧
    ∃ t, exec i s = .next t ∧ t.a.toNat = rotated op s.a.toNat s.f.c ∧
      RotateFlags s.policy t.a (rotatedOut op s.a.toNat) s.f t.f ∧
      t.f.z = s.f.z ∧ t.f.s = s.f.s ∧ t.f.pv = s.f.pv ∧ OnlyAF s t ∧ Accesses [] s t

/-- RLC, RRC, RL, RR, SLA, SRA, SLL, SRL on every operand (R140, R145 to R152). Constructors: the eighty
whose names begin with rlc, rrc, rl, rr, sla, sra, sll, srl and end in a register, IndHL, IndIX or
IndIY.
The fills of the four shifts are the spec's decision D9. That a memory operand in ROM keeps its byte, so that
only RAM takes the result, is the model's choice (log 5). -/
def Obligations.PrefixedRotateResult : Prop :=
  ∀ (op : RotOp) (m : Place8) (s : State), s.policy = .z80 →
    let v := s.placeValue m
    IsRow (Instr.rot op m) (rotRow (rotCode op) m) false ∧
    ∃ t r, exec (Instr.rot op m) s = .next t ∧ r.toNat = rotated op v.toNat s.f.c ∧
      WrotePlace m r s t ∧ RotateFlags s.policy r (rotatedOut op v.toNat) s.f t.f ∧
      ZeroSign r t.f ∧ (t.f.pv = true ↔ EvenOnes r) ∧
      Accesses (placeReads s m ++ placeWrites s m r) s t

/-! ### DAA (44) -/

/-- DAA (R160): the correction, the direction, and every flag. Constructor: daa.
H, Z, S, PV, N, F5 and F3 are the spec's
decision D10. -/
def Obligations.DecimalAdjustResult : Prop :=
  ∀ s : State,
    let lo := s.a.toNat % 16
    let hi := s.a.toNat / 16
    let low := decide (9 < lo) || s.f.h
    let high := decide (9 < hi) || s.f.c || decide (9 < lo ∧ 8 < hi)
    let corr := (if low then 0x06 else 0) + (if high then 0x60 else 0)
    let subtract := s.policy == .z80 && s.f.n
    IsRow .daa [0x27#8] true ∧
    ∃ t, exec .daa s = .next t ∧
      t.a.toNat = (if subtract then (s.a.toNat + 256 - corr) % 256 else (s.a.toNat + corr) % 256) ∧
      t.f.c = high ∧
      (t.f.h = true ↔ if subtract then lo < corr % 16 else 16 ≤ lo + corr % 16) ∧
      ZeroSign t.a t.f ∧ (t.f.pv = true ↔ EvenOnes t.a) ∧
      t.f.n = s.f.n ∧ KeepsUndocumented s.f t.f ∧ OnlyAF s t ∧ Accesses [] s t

/-- DAA does what it is for: after `ADD A,n` of two packed-BCD numbers it leaves their decimal sum modulo
100 in A and the decimal carry in C, under either policy. -/
def Obligations.DaaCorrectsBcdAddition : Prop :=
  ∀ (x y : Nat) (s : State), x < 100 → y < 100 → s.a = bcd x →
    ∃ t u, exec (.addAImm (bcd y)) s = .next t ∧ exec .daa t = .next u ∧
      u.a = bcd ((x + y) % 100) ∧ (u.f.c = true ↔ 100 ≤ x + y)

/-- Under `Z80`, after `SUB n` of two packed-BCD numbers DAA leaves their decimal difference modulo 100 in
A and the decimal borrow in C. -/
def Obligations.DaaCorrectsBcdSubtraction : Prop :=
  ∀ (x y : Nat) (s : State), s.policy = .z80 → x < 100 → y < 100 → s.a = bcd x →
    ∃ t u, exec (.subImm (bcd y)) s = .next t ∧ exec .daa t = .next u ∧
      u.a = bcd ((x + 100 - y) % 100) ∧ (u.f.c = true ↔ x < y)

/-! ### 16-bit arithmetic (45) -/

/-- ADD HL,ss; ADD IX,pp; ADD IY,rr (R165, R168, R169): C always, H and N under `Z80` only, no other flag.
Constructors: addHLBC, addHLDE, addHLHL, addHLSP, addIXBC, addIXDE, addIXIX, addIXSP, addIYBC, addIYDE,
addIYIY, addIYSP.
Which flags are written is the spec's decision D11. -/
def Obligations.PairAdditionResult : Prop :=
  ∀ (x : Base16) (q : Ss) (s : State), x.wf s.policy = true →
    let a := s.base x
    let b := s.ss x q
    IsRow (Instr.add16 x q) (baseRow x (BitVec.ofNat 8 (0x09 + 16 * ssCode q))) (x.wf .i8080) ∧
    ∃ t w, exec (Instr.add16 x q) s = .next t ∧ w.toNat = (a.toNat + b.toNat) % 65536 ∧
      WrotePair (basePair x) w s t ∧
      (t.f.c = true ↔ 65536 ≤ a.toNat + b.toNat) ∧
      (s.policy = .z80 → (t.f.h = true ↔ 4096 ≤ a.toNat % 4096 + b.toNat % 4096) ∧ t.f.n = false) ∧
      (s.policy = .i8080 → t.f.h = s.f.h ∧ t.f.n = s.f.n) ∧
      t.f.z = s.f.z ∧ t.f.s = s.f.s ∧ t.f.pv = s.f.pv ∧ KeepsUndocumented s.f t.f ∧
      Accesses [] s t

/-- ADC HL,ss and SBC HL,ss (R166, R167): the full flag set at 16 bits. Constructors: adcHLBC, adcHLDE,
adcHLHL, adcHLSP, sbcHLBC, sbcHLDE, sbcHLHL, sbcHLSP.
Which flags are written is the spec's decision D11. -/
def Obligations.PairCarryArithmeticResult : Prop :=
  ∀ (q : Ss) (s : State), s.policy = .z80 →
    let b := s.ss .hl q
    IsRow (Instr.adc16 q) [0xED#8, BitVec.ofNat 8 (0x4A + 16 * ssCode q)] false ∧
    IsRow (Instr.sbc16 q) [0xED#8, BitVec.ofNat 8 (0x42 + 16 * ssCode q)] false ∧
    (∃ t w, exec (Instr.adc16 q) s = .next t ∧
      w.toNat = (s.hl.toNat + b.toNat + s.f.c.toNat) % 65536 ∧ WrotePair .hl w s t ∧
      SumFlags .z80 s.hl b s.f.c w s.f t.f ∧ Accesses [] s t) ∧
    ∃ t w, exec (Instr.sbc16 q) s = .next t ∧
      w.toNat = (s.hl.toNat + 131072 - b.toNat - s.f.c.toNat) % 65536 ∧ WrotePair .hl w s t ∧
      DifferenceFlags .z80 s.hl b s.f.c w s.f t.f ∧ KeepsUndocumented s.f t.f ∧
      Accesses [] s t

/-! ### Branch, call and return (46) -/

/-- JP nn and JP cc,nn (R175, R176, R177): 10 T-states either way. Constructors: jp, jpNZ, jpZ, jpNC, jpC,
jpPO, jpPE, jpP, jpM.
The codes of the conditions and the flags they test are the spec's decision D12 (log 12). -/
def Obligations.JumpResult : Prop :=
  ∀ (cc : Cond) (nn : Word) (s : State),
    IsRow (.jp nn) [0xC3#8, lo8 nn, hi8 nn] true ∧
    IsRow (Instr.jpCond cc nn) [BitVec.ofNat 8 (0xC2 + 8 * condCode cc), lo8 nn, hi8 nn] true ∧
    exec (.jp nn) s = .next { s with pc := nn, out := ⟨some 10, s.out.bus⟩ } ∧
    (Tests s.f cc →
      exec (Instr.jpCond cc nn) s = .next { s with pc := nn, out := ⟨some 10, s.out.bus⟩ }) ∧
    (¬ Tests s.f cc →
      exec (Instr.jpCond cc nn) s = .next { s with out := ⟨some 10, s.out.bus⟩ })

/-- CALL nn and CALL cc,nn (R178, R179): the return address is pushed only when the call is taken.
Constructors: call, callNZ, callZ, callNC, callC, callPO, callPE, callP, callM.
That PC is the address after the call is the spec's decision D3, the conditions are its decision D12 (log 12),
and that a stacked byte in ROM is not held is the model's choice (log 5). Of the counts, 17 for a taken CALL
cc and 10 for one not taken under `Z80` are the document's; 17 for CALL nn and 11 for a CALL cc not taken
under `I8080` are general knowledge that the model adopts (log 10). -/
def Obligations.CallResult : Prop :=
  ∀ (cc : Cond) (nn : Word) (s : State),
    IsRow (.call nn) [0xCD#8, lo8 nn, hi8 nn] true ∧
    IsRow (Instr.callCond cc nn) [BitVec.ofNat 8 (0xC4 + 8 * condCode cc), lo8 nn, hi8 nn] true ∧
    (∃ t, exec (.call nn) s = .next t ∧ Pushed s.pc s t ∧ t.pc = nn ∧ t.out.cycles = some 17 ∧
      OnlyCalls s t) ∧
    (Tests s.f cc → ∃ t, exec (Instr.callCond cc nn) s = .next t ∧ Pushed s.pc s t ∧ t.pc = nn ∧
      t.out.cycles = some 17 ∧ OnlyCalls s t) ∧
    (¬ Tests s.f cc → exec (Instr.callCond cc nn) s =
      .next { s with out := ⟨some (if s.policy = .z80 then 10 else 11), s.out.bus⟩ })

/-- RET and RET cc (R180, R181): the stack is read only when the return is taken. Constructors: ret,
retNZ, retZ, retNC, retC, retPO, retPE, retP, retM. The conditions are the spec's decision D12 (log 12). The
counts 11 and 5 of RET cc are the document's; 10 for RET is general knowledge that the model adopts (log 10). -/
def Obligations.ReturnResult : Prop :=
  ∀ (cc : Cond) (s : State),
    IsRow .ret [0xC9#8] true ∧
    IsRow (Instr.retCond cc) [BitVec.ofNat 8 (0xC0 + 8 * condCode cc)] true ∧
    (∃ t, exec .ret s = .next t ∧ Popped s t ∧
      t.pc.toNat = (topHigh s).toNat * 256 + (topLow s).toNat ∧
      t.out.cycles = some 10 ∧ OnlyReturns s t) ∧
    (Tests s.f cc → ∃ t, exec (Instr.retCond cc) s = .next t ∧ Popped s t ∧
      t.pc.toNat = (topHigh s).toNat * 256 + (topLow s).toNat ∧
      t.out.cycles = some 11 ∧ OnlyReturns s t) ∧
    (¬ Tests s.f cc → exec (Instr.retCond cc) s = .next { s with out := ⟨some 5, s.out.bus⟩ })

/-- RST t (R182): a one-byte call to 8 t. Constructors: rst00, rst08, rst10, rst18, rst20, rst28, rst30,
rst38.
The spacing is the spec's decision D23; that a stacked byte in ROM is not held is the model's choice (log 5);
the count 11 is general knowledge that the model adopts (log 10). -/
def Obligations.RestartResult : Prop :=
  ∀ (k : Fin 8) (s : State),
    IsRow (Instr.rst k) [BitVec.ofNat 8 (0xC7 + 8 * k.val)] true ∧
    ∃ t, exec (Instr.rst k) s = .next t ∧ Pushed s.pc s t ∧ t.pc.toNat = 8 * k.val ∧
      t.out.cycles = some 11 ∧ OnlyCalls s t

/-- RET after CALL restores PC and SP where the stack lies in RAM, whatever the subroutine did, if it left SP
and the two stacked bytes as the call made them (46 R178, R180). The default environment is RAM everywhere. -/
def Obligations.ReturnAfterCallRestores : Prop :=
  ∀ (nn : Word) (s t u : State), s.kindAt (s.sp - 1#16) = .ram → s.kindAt (s.sp - 2#16) = .ram →
    exec (.call nn) s = .next t → u.sp = t.sp → u.env = t.env →
    (∀ x, x = t.sp ∨ x = t.sp + 1#16 → u.byteAt x = t.byteAt x) →
    ∃ v, exec .ret u = .next v ∧ v.pc = s.pc ∧ v.sp = s.sp

/-! ### Stack (47) -/

/-- PUSH of every operand (R190, R192); for AF the high byte is A and the low byte the packed flags.
Constructors: pushBC, pushDE, pushHL, pushAF, pushIX, pushIY.
The layout of the packed flags is the spec's decision D4 (log 12); that a stacked byte in ROM is not held is
the model's choice (log 5). -/
def Obligations.PushResult : Prop :=
  ∀ (q : StackReg) (s : State), q.wf s.policy = true →
    IsRow (Instr.push q) (stackRow 0xC5 q) (q.wf .i8080) ∧
    ∃ t w, exec (Instr.push q) s = .next t ∧ Pushed w s t ∧
      (∀ k, (q, k) ∈ [(StackReg.bc, Pair16.bc), (.de, .de), (.hl, .hl), (.ix, .ix), (.iy, .iy)] →
        w = s.pair k) ∧
      (q = .af → hi8 w = s.a ∧ FlagBits s.policy (lo8 w) s.f) ∧
      t = { s with sp := t.sp, mem := t.mem, out := t.out, envHistory := t.envHistory }

/-- POP of every operand (R191, R193); POP AF loads A and every flag of the policy, the others no flag.
Constructors: popBC, popDE, popHL, popAF, popIX, popIY.
The layout of the packed flags is the spec's decision D4 (log 12), and what POP AF loads under `I8080` its
decision D24. -/
def Obligations.PopResult : Prop :=
  ∀ (q : StackReg) (s : State), q.wf s.policy = true →
    IsRow (Instr.pop q) (stackRow 0xC1 q) (q.wf .i8080) ∧
    ∃ t w, exec (Instr.pop q) s = .next t ∧ Popped s t ∧
      w.toNat = (topHigh s).toNat * 256 + (topLow s).toNat ∧
      (∀ k ∈ [(StackReg.bc, Pair16.bc), (.de, .de), (.hl, .hl), (.ix, .ix), (.iy, .iy)],
        t.pair k.2 = if k.1 = q then w else s.pair k.2) ∧
      (q = .af → t.a = hi8 w ∧ LoadsFlags s.policy (lo8 w) s.f t.f) ∧
      (q ≠ .af → t.a = s.a ∧ t.f = s.f) ∧
      t.pc = s.pc ∧ t.policy = s.policy ∧ t.halted = s.halted ∧ t.fault = s.fault ∧ t.io = s.io

/-- POP after PUSH restores the pair and SP, for every pair, any SP where RAM is attached and either policy;
only the two bytes below SP can differ (20_memory.md R66, 47 R191). The default environment is RAM
everywhere. -/
def Obligations.PopAfterPushRestores : Prop :=
  ∀ (q : StackReg) (s : State), q.wf s.policy = true →
    s.kindAt (s.sp - 1#16) = .ram → s.kindAt (s.sp - 2#16) = .ram →
    ∃ t u, exec (Instr.push q) s = .next t ∧ exec (Instr.pop q) t = .next u ∧
      u = { s with mem := u.mem, out := u.out } ∧
      ∀ x, x ≠ s.sp - 1#16 → x ≠ s.sp - 2#16 → u.byteAt x = s.byteAt x

/-- EX (SP),HL / IX / IY (R194, R195): the register and the word at SP change places, SP stays, no flag.
Constructors: exSPHL, exSPIX, exSPIY.
The order of the accesses is the spec's decision D16; that a byte in ROM is not replaced is the model's choice
(log 5). -/
def Obligations.ExchangeResult : Prop :=
  ∀ (x : Base16) (s : State), x.wf s.policy = true →
    let w := s.base x
    IsRow (Instr.exSP x) (baseRow x 0xE3#8) (x.wf .i8080) ∧
    ∃ t, exec (Instr.exSP x) s = .next t ∧
      (t.base x).toNat = (topHigh s).toNat * 256 + (topLow s).toNat ∧
      (∀ y, y ≠ x → t.base y = s.base y) ∧ t.bc = s.bc ∧ t.de = s.de ∧ t.env = s.env ∧
      (∀ y, (s.kindAt y).isMemory = true →
        t.byteAt y =
          if s.kindAt y = .ram ∧ y = s.sp then lo8 w
          else if s.kindAt y = .ram ∧ y = s.sp + 1#16 then hi8 w
          else s.byteAt y) ∧
      Accesses (topReads s ++ [.memWrite s.sp (lo8 w), .memWrite (s.sp + 1#16) (hi8 w)]) s t ∧
      t.a = s.a ∧ t.f = s.f ∧ t.sp = s.sp ∧ t.pc = s.pc ∧ t.policy = s.policy ∧
      t.halted = s.halted ∧ t.fault = s.fault ∧ t.io = s.io

/-- EX (SP) executed twice restores the register and every byte of memory, where RAM is attached at SP and SP+1
(47 R194). The default environment is RAM everywhere. -/
def Obligations.ExchangeTwiceRestores : Prop :=
  ∀ (x : Base16) (s : State), x.wf s.policy = true →
    s.kindAt s.sp = .ram → s.kindAt (s.sp + 1#16) = .ram →
    ∃ t u, exec (Instr.exSP x) s = .next t ∧ exec (Instr.exSP x) t = .next u ∧
      u = { s with mem := u.mem, out := u.out } ∧ KeepsMemory s u

/-! ### HALT, timing, ports -/

/-- HALT (48 R200): `halted` becomes 1, nothing else changes, and a later step goes on as if nothing had
happened, which `HaltedIsReadByNothing` states. Constructor: halt.
The spec's decision D21. -/
def Obligations.HaltResult : Prop :=
  ∀ s : State, IsRow .halt [0x76#8] true ∧
    ∃ t, exec .halt s = .next t ∧ t.halted = true ∧ Accesses [] s t ∧
      t = { s with halted := t.halted, out := t.out } ∧ KeepsMemory s t

/-- Every instruction outputs one T-state count, from 4 to 23. The counts beyond the document's own are
the table of 70 R234, which the model adopts (log 10). -/
def Obligations.EveryInstructionOutputsACount : Prop :=
  ∀ (i : Instr) (s t : State), i.wf s.policy = true → exec i s = .next t →
    ∃ k, t.out.cycles = some k ∧ 4 ≤ k ∧ k ≤ 23

/-- The orders of 70 R233 as the spec reads them (90_conflicts.md C3): under either policy the register forms
of the 8-bit ALU class cost no more than the immediate one and that no more than `(HL)`; under `Z80` `(HL)`
costs less than `(IX+d)` and `(IY+d)`; CALL cc and RET cc cost strictly less when not taken. Counts beyond
the document's own are the table the model adopts (log 10). -/
def Obligations.TimingOrders : Prop :=
  (∀ (op : AluOp) (r : Reg8) (n : Byte) (s : State),
    ∃ t1 t2 t3 k1 k2 k3,
      exec (Instr.alu op (.loc (.reg r))) s = .next t1 ∧ t1.out.cycles = some k1 ∧
      exec (Instr.alu op (.imm n)) s = .next t2 ∧ t2.out.cycles = some k2 ∧
      exec (Instr.alu op (.loc .indHL)) s = .next t3 ∧ t3.out.cycles = some k3 ∧
      k1 ≤ k2 ∧ k2 ≤ k3 ∧
      (s.policy = .z80 → ∀ d : Byte, ∃ t4 t5 k4 k5,
        exec (Instr.alu op (.loc (.indIX d))) s = .next t4 ∧ t4.out.cycles = some k4 ∧
        exec (Instr.alu op (.loc (.indIY d))) s = .next t5 ∧ t5.out.cycles = some k5 ∧
        k3 < k4 ∧ k3 < k5)) ∧
  ∀ (cc : Cond) (nn : Word) (s s' : State), s.policy = s'.policy → Tests s.f cc → ¬ Tests s'.f cc →
    ∃ t t' u u' k k' j j',
      exec (Instr.callCond cc nn) s = .next t ∧ t.out.cycles = some k ∧
      exec (Instr.callCond cc nn) s' = .next t' ∧ t'.out.cycles = some k' ∧ k' < k ∧
      exec (Instr.retCond cc) s = .next u ∧ u.out.cycles = some j ∧
      exec (Instr.retCond cc) s' = .next u' ∧ u'.out.cycles = some j' ∧ j' < j

/-- What one access does. `ENV_MEM` says what is attached at an address (00_scope.md R6, 20_memory.md R50): the
first region that holds it, RAM where there is none. A read gives the byte at the address and changes no byte
of memory. A write is held by RAM, which then gives it back (R50, R58), and changes no other byte; that ROM
keeps its byte and that a hole or a device keeps none is the model's choice (log 5). A hole or a device sees
the access (log 13); memory does not remember reads. The I/O space is a mapping from port to value, separate
from memory (10_state.md R34, 20_memory.md R67). -/
def Obligations.MemoryAndPortAccesses : Prop :=
  ∀ (v port port' : Byte) (addr : Word) (s : State),
    (∀ y, Environment.kindAt [] y = .ram) ∧
    (∀ (r : Region) (env : Environment) (y : Word),
      ((∃ k, k < r.size ∧ y = r.base + BitVec.ofNat 16 k) → Environment.kindAt (r :: env) y = r.kind) ∧
      ((∀ k, k < r.size → y ≠ r.base + BitVec.ofNat 16 k) →
        Environment.kindAt (r :: env) y = Environment.kindAt env y)) ∧
    (∀ y, s.kindAt y = Environment.kindAt s.env y) ∧
    (∀ k : MemKind, k.isMemory = true ↔ k = .ram ∨ k = .rom) ∧
    (∀ a, s.outside a = true ↔
      ∃ y w, (a = .memRead y w ∨ a = .memWrite y w) ∧ (s.kindAt y = .hole ∨ s.kindAt y = .device)) ∧
    (s.memRead addr).1 = s.byteAt addr ∧ KeepsMemory s (s.memRead addr).2 ∧
    Accesses [.memRead addr (s.byteAt addr)] s (s.memRead addr).2 ∧
    (s.kindAt addr = .ram → (s.memWrite addr v).byteAt addr = v) ∧
    (∀ y, (s.kindAt y).isMemory = true → (y = addr → s.kindAt y = .rom) →
      (s.memWrite addr v).byteAt y = s.byteAt y) ∧
    (s.memWrite addr v).env = s.env ∧ Accesses [.memWrite addr v] s (s.memWrite addr v) ∧
    ((s.ioWrite port v).ioRead port).1 = v ∧
    (port' ≠ port → ((s.ioWrite port v).ioRead port').1 = (s.ioRead port').1) ∧
    KeepsMemory s (s.ioWrite port v) ∧ (s.ioWrite port v).envHistory = s.envHistory ∧
    (s.ioRead port).2 = { s with out := (s.ioRead port).2.out }

/-! ### Operands (10_state.md §1, 30_encoding.md §2 and §3, 41 R110) -/

/-- The effective address of each memory operand, in exact arithmetic (41 R110, 30_encoding.md R78, 42 §1,
43 R140): HL for `(HL)`; IX or IY plus the displacement read as a signed byte, modulo 65536, for the indexed
forms; none for a register. The displacement's sign and range are the spec's decision D15. -/
def Obligations.EffectiveAddressOfOperand : Prop :=
  ∀ (r : Reg8) (d : Byte) (s : State),
    s.ea (.reg r) = none ∧
    (∃ x, s.ea .indHL = some x ∧ x.toNat = s.h.toNat * 256 + s.l.toNat) ∧
    (∃ x, s.ea (.indIX d) = some x ∧ (x.toNat : Int) = (s.ix.toNat + signedByte d) % 65536) ∧
    ∃ x, s.ea (.indIY d) = some x ∧ (x.toNat : Int) = (s.iy.toNat + signedByte d) % 65536

/-- What the operands of the other statements stand for: the register a field names (30_encoding.md R72),
the pairs as high and low half (10_state.md R21), the pair fields (R73), the two halves of a word (00_scope.md
R11), and the value of an operand as the register, the byte at its effective address, or the immediate byte
(41 R110). -/
def Obligations.OperandsAreWhatTheyName : Prop :=
  ∀ s : State,
    (s.reg8 .b = s.b ∧ s.reg8 .c = s.c ∧ s.reg8 .d = s.d ∧ s.reg8 .e = s.e ∧ s.reg8 .h = s.h ∧
      s.reg8 .l = s.l ∧ s.reg8 .a = s.a) ∧
    (s.bc.toNat = s.b.toNat * 256 + s.c.toNat ∧ s.de.toNat = s.d.toNat * 256 + s.e.toNat ∧
      s.hl.toNat = s.h.toNat * 256 + s.l.toNat) ∧
    (s.pair .bc = s.bc ∧ s.pair .de = s.de ∧ s.pair .hl = s.hl ∧ s.pair .sp = s.sp ∧
      s.pair .ix = s.ix ∧ s.pair .iy = s.iy) ∧
    (s.base .hl = s.hl ∧ s.base .ix = s.ix ∧ s.base .iy = s.iy) ∧
    (∀ x, s.ss x .bc = s.bc ∧ s.ss x .de = s.de ∧ s.ss x .own = s.base x ∧ s.ss x .sp = s.sp) ∧
    (∀ w : Word, (hi8 w).toNat = w.toNat / 256 ∧ (lo8 w).toNat = w.toNat % 256) ∧
    (∀ r, s.placeValue (.reg r) = s.reg8 r) ∧
    (∀ m x, s.ea m = some x → s.placeValue m = s.byteAt x) ∧
    (∀ m, s.srcValue (.loc m) = s.placeValue m) ∧
    ∀ n, s.srcValue (.imm n) = n
end

