-- ==== Sys2Proof/Laws/Memory.lean ====
section
/-! SUPPORT. The laws of the byte store: a read after a write, every other address left alone, and the
canonical form kept by every write, load and port write. -/

namespace Sys2Proof.Machine

theorem Memory.lookup_erase_same (m : Memory) (n : Nat) :
    Memory.lookup (Memory.erase m n) n = Memory.unlisted := by
  induction m with
  | nil => rfl
  | cons c m ih =>
    obtain ⟨k, w⟩ := c
    by_cases h : k = n <;> simp [Memory.erase, Memory.lookup, h, ih]

theorem Memory.lookup_erase_other (m : Memory) {n a : Nat} (h : a ≠ n) :
    Memory.lookup (Memory.erase m n) a = Memory.lookup m a := by
  induction m with
  | nil => rfl
  | cons c m ih =>
    obtain ⟨k, w⟩ := c
    by_cases hk : k = n
    · have : k ≠ a := fun e => h (e ▸ hk)
      simp [Memory.erase, Memory.lookup, hk, ih]
      intro e; exact absurd e.symm h
    · simp [Memory.erase, Memory.lookup, hk, ih]

theorem Memory.lookup_place_same (m : Memory) (n : Nat) (v : Byte) :
    Memory.lookup (Memory.place (Memory.erase m n) n v) n = v := by
  induction m with
  | nil => simp [Memory.erase, Memory.place, Memory.lookup]
  | cons c m ih =>
    obtain ⟨k, w⟩ := c
    by_cases hk : k = n
    · simp [Memory.erase, hk, ih]
    · by_cases hn : n < k <;> simp [Memory.erase, Memory.place, Memory.lookup, hk, hn, ih]

theorem Memory.lookup_place_other (m : Memory) {n a : Nat} (v : Byte) (h : a ≠ n) :
    Memory.lookup (Memory.place m n v) a = Memory.lookup m a := by
  induction m with
  | nil => simp [Memory.place, Memory.lookup, Ne.symm h]
  | cons c m ih =>
    obtain ⟨k, w⟩ := c
    by_cases hn : n < k <;> simp [Memory.place, Memory.lookup, hn, ih, Ne.symm h]

theorem Memory.lookup_insert_same (m : Memory) (n : Nat) (v : Byte) :
    Memory.lookup (Memory.insert m n v) n = v := by
  unfold Memory.insert
  by_cases hv : v = Memory.unlisted
  · simp [hv, Memory.lookup_erase_same]
  · simp [hv, Memory.lookup_place_same]

theorem Memory.lookup_insert_other (m : Memory) {n a : Nat} (v : Byte) (h : a ≠ n) :
    Memory.lookup (Memory.insert m n v) a = Memory.lookup m a := by
  unfold Memory.insert
  by_cases hv : v = Memory.unlisted
  · simp [hv, Memory.lookup_erase_other m h]
  · simp [hv, Memory.lookup_place_other _ v h, Memory.lookup_erase_other m h]

/-- A read after a write to the same address gives the byte written (20_memory.md R58). -/
@[simp] theorem Memory.read_write_same (m : Memory) (x : Word) (v : Byte) :
    Memory.read (Memory.write m x v) x = v :=
  Memory.lookup_insert_same m x.toNat v

/-- A write leaves every other address alone (20_memory.md R58). -/
theorem Memory.read_write_other (m : Memory) {x y : Word} (v : Byte) (h : y ≠ x) :
    Memory.read (Memory.write m x v) y = Memory.read m y :=
  Memory.lookup_insert_other m v fun e => h (BitVec.eq_of_toNat_eq e)

/-- Everything a read after a write can give. -/
theorem Memory.read_write (m : Memory) (x y : Word) (v : Byte) :
    Memory.read (Memory.write m x v) y = if y = x then v else Memory.read m y := by
  by_cases h : y = x
  · simp [h]
  · simp [h, Memory.read_write_other m v h]

/-! ### The canonical form -/

theorem Memory.wfFrom_mono {bound lo lo' : Nat} (m : Memory) (h : lo' ≤ lo)
    (hm : Memory.wfFrom bound lo m = true) : Memory.wfFrom bound lo' m = true := by
  cases m with
  | nil => rfl
  | cons c m =>
    obtain ⟨k, w⟩ := c
    simp only [Memory.wfFrom, Bool.and_eq_true, decide_eq_true_eq] at hm ⊢
    exact ⟨⟨⟨by omega, hm.1.1.2⟩, hm.1.2⟩, hm.2⟩

theorem Memory.wfFrom_erase {bound : Nat} (n : Nat) (m : Memory) :
    ∀ lo, Memory.wfFrom bound lo m = true → Memory.wfFrom bound lo (Memory.erase m n) = true := by
  induction m with
  | nil => intro lo _; rfl
  | cons c m ih =>
    obtain ⟨k, w⟩ := c
    intro lo hm
    simp only [Memory.wfFrom, Bool.and_eq_true, decide_eq_true_eq] at hm
    by_cases hk : k = n
    · simp only [Memory.erase, hk, if_true]
      exact Memory.wfFrom_mono _ (by omega) (ih (k + 1) hm.2)
    · simp only [Memory.erase, hk, if_false, Memory.wfFrom, Bool.and_eq_true, decide_eq_true_eq]
      exact ⟨hm.1, ih (k + 1) hm.2⟩

theorem Memory.wfFrom_place {bound n : Nat} {v : Byte} (hn : n < bound)
    (hv : v ≠ Memory.unlisted) (m : Memory) :
    ∀ lo, lo ≤ n → Memory.wfFrom bound lo (Memory.erase m n) = true →
      Memory.wfFrom bound lo (Memory.place (Memory.erase m n) n v) = true := by
  induction m with
  | nil =>
    intro lo hlo _
    simp [Memory.erase, Memory.place, Memory.wfFrom, hlo, hn, hv]
  | cons c m ih =>
    obtain ⟨k, w⟩ := c
    intro lo hlo hm
    by_cases hk : k = n
    · simp only [Memory.erase, hk, if_true] at hm ⊢
      exact ih lo hlo hm
    · simp only [Memory.erase, hk, if_false, Memory.wfFrom, Bool.and_eq_true,
        decide_eq_true_eq] at hm
      by_cases hlt : n < k
      · simp only [Memory.erase, hk, if_false, Memory.place, hlt, if_true, Memory.wfFrom,
          Bool.and_eq_true, decide_eq_true_eq, bne_iff_ne, ne_eq]
        exact ⟨⟨⟨hlo, hn⟩, hv⟩, ⟨⟨⟨by omega, hm.1.1.2⟩, by simpa using hm.1.2⟩, hm.2⟩⟩
      · simp only [Memory.erase, hk, if_false, Memory.place, hlt, Memory.wfFrom,
          Bool.and_eq_true, decide_eq_true_eq]
        exact ⟨hm.1, ih (k + 1) (by omega) hm.2⟩

/-- A store keeps the canonical form below any bound its address respects. -/
theorem Memory.wfFrom_insert {bound n : Nat} (v : Byte) (m : Memory) (hn : n < bound)
    (hm : Memory.wfFrom bound 0 m = true) : Memory.wfFrom bound 0 (Memory.insert m n v) = true := by
  unfold Memory.insert
  by_cases hv : v = Memory.unlisted
  · simpa [hv] using Memory.wfFrom_erase n m 0 hm
  · simpa [hv] using
      Memory.wfFrom_place hn hv m 0 (Nat.zero_le _) (Memory.wfFrom_erase n m 0 hm)

/-- A write keeps the canonical form of memory. -/
theorem Memory.wf_write (m : Memory) (x : Word) (v : Byte) (hm : Memory.wf m = true) :
    Memory.wf (Memory.write m x v) = true :=
  Memory.wfFrom_insert v m x.isLt hm

/-- The loader keeps the canonical form of memory. -/
theorem Memory.wf_load (bytes : List Byte) :
    ∀ (m : Memory) (x : Word), Memory.wf m = true → Memory.wf (Memory.load m x bytes) = true := by
  induction bytes with
  | nil => intro m x hm; exact hm
  | cons v bytes ih => intro m x hm; exact ih _ _ (Memory.wf_write m x v hm)

/-- A port write keeps the canonical form of the I/O space. -/
theorem Memory.portsWf_insert (m : Memory) (port v : Byte) (hm : Memory.portsWf m = true) :
    Memory.portsWf (Memory.insert m port.toNat v) = true :=
  Memory.wfFrom_insert v m port.isLt hm

theorem Memory.lookup_of_lt {bound : Nat} (m : Memory) :
    ∀ {lo n : Nat}, Memory.wfFrom bound lo m = true → n < lo →
      Memory.lookup m n = Memory.unlisted := by
  induction m with
  | nil => intro lo n _ _; rfl
  | cons c m ih =>
    obtain ⟨k, w⟩ := c
    intro lo n hm hn
    simp only [Memory.wfFrom, Bool.and_eq_true, decide_eq_true_eq] at hm
    have hk : k ≠ n := by omega
    simpa [Memory.lookup, hk] using ih hm.2 (by omega : n < k + 1)

/-- Two stores in canonical form that read alike are equal data. -/
theorem Memory.eq_of_lookup {bound : Nat} (m : Memory) :
    ∀ {lo : Nat} {m' : Memory}, Memory.wfFrom bound lo m = true → Memory.wfFrom bound lo m' = true →
      (∀ n, Memory.lookup m n = Memory.lookup m' n) → m = m' := by
  induction m with
  | nil =>
    intro lo m' _ hm' h
    cases m' with
    | nil => rfl
    | cons c m' =>
      obtain ⟨k, w⟩ := c
      simp only [Memory.wfFrom, Bool.and_eq_true, decide_eq_true_eq, bne_iff_ne] at hm'
      exact absurd (by simpa [Memory.lookup] using (h k).symm) hm'.1.2
  | cons c m ih =>
    obtain ⟨k, w⟩ := c
    intro lo m' hm hm' h
    simp only [Memory.wfFrom, Bool.and_eq_true, decide_eq_true_eq, bne_iff_ne] at hm
    cases m' with
    | nil => exact absurd (by simpa [Memory.lookup] using h k) hm.1.2
    | cons c' m' =>
      obtain ⟨k', w'⟩ := c'
      simp only [Memory.wfFrom, Bool.and_eq_true, decide_eq_true_eq, bne_iff_ne] at hm'
      have hk : k = k' := by
        rcases Nat.lt_trichotomy k k' with hlt | heq | hgt
        · have e := h k
          have h' : Memory.lookup m' k = Memory.unlisted := Memory.lookup_of_lt m' hm'.2 (by omega)
          have hne : k' ≠ k := by omega
          simp only [Memory.lookup, if_true, hne, if_false, h'] at e
          exact absurd e hm.1.2
        · exact heq
        · have e := h k'
          have h' : Memory.lookup m k' = Memory.unlisted := Memory.lookup_of_lt m hm.2 (by omega)
          have hne : k ≠ k' := by omega
          simp only [Memory.lookup, if_true, hne, if_false, h'] at e
          exact absurd e.symm hm'.1.2
      subst hk
      have hw : w = w' := by simpa [Memory.lookup] using h k
      subst hw
      have : m = m' := ih hm.2 hm'.2 fun n => by
        by_cases hn : k = n
        · subst hn
          rw [Memory.lookup_of_lt m hm.2 (by omega), Memory.lookup_of_lt m' hm'.2 (by omega)]
        · simpa [Memory.lookup, hn] using h n
      rw [this]

end Sys2Proof.Machine
end

