-- ==== Sys2Proof/Laws/State.lean ====
section
/-! SUPPORT. One lemma per field of `State` per named update: what the update leaves alone, and what it
writes, so that no later proof unfolds a record update. -/

namespace Sys2Proof.Machine

/-! `log` -/

@[simp] theorem State.log_env (x : Access) (s : State) :
    (s.log x).env = s.env := rfl
@[simp] theorem State.log_policy (x : Access) (s : State) :
    (s.log x).policy = s.policy := rfl
@[simp] theorem State.log_a (x : Access) (s : State) :
    (s.log x).a = s.a := rfl
@[simp] theorem State.log_b (x : Access) (s : State) :
    (s.log x).b = s.b := rfl
@[simp] theorem State.log_c (x : Access) (s : State) :
    (s.log x).c = s.c := rfl
@[simp] theorem State.log_d (x : Access) (s : State) :
    (s.log x).d = s.d := rfl
@[simp] theorem State.log_e (x : Access) (s : State) :
    (s.log x).e = s.e := rfl
@[simp] theorem State.log_h (x : Access) (s : State) :
    (s.log x).h = s.h := rfl
@[simp] theorem State.log_l (x : Access) (s : State) :
    (s.log x).l = s.l := rfl
@[simp] theorem State.log_ix (x : Access) (s : State) :
    (s.log x).ix = s.ix := rfl
@[simp] theorem State.log_iy (x : Access) (s : State) :
    (s.log x).iy = s.iy := rfl
@[simp] theorem State.log_sp (x : Access) (s : State) :
    (s.log x).sp = s.sp := rfl
@[simp] theorem State.log_pc (x : Access) (s : State) :
    (s.log x).pc = s.pc := rfl
@[simp] theorem State.log_f (x : Access) (s : State) :
    (s.log x).f = s.f := rfl
@[simp] theorem State.log_halted (x : Access) (s : State) :
    (s.log x).halted = s.halted := rfl
@[simp] theorem State.log_fault (x : Access) (s : State) :
    (s.log x).fault = s.fault := rfl
@[simp] theorem State.log_mem (x : Access) (s : State) :
    (s.log x).mem = s.mem := rfl
@[simp] theorem State.log_io (x : Access) (s : State) :
    (s.log x).io = s.io := rfl
@[simp] theorem State.log_out (x : Access) (s : State) :
    (s.log x).out = s.out.log x := rfl
@[simp] theorem State.log_envHistory (x : Access) (s : State) :
    (s.log x).envHistory = s.historyAfter x := rfl

/-! `charge` -/

@[simp] theorem State.charge_envHistory (k : Nat) (s : State) :
    (s.charge k).envHistory = s.envHistory := rfl
@[simp] theorem State.charge_env (k : Nat) (s : State) :
    (s.charge k).env = s.env := rfl
@[simp] theorem State.charge_policy (k : Nat) (s : State) :
    (s.charge k).policy = s.policy := rfl
@[simp] theorem State.charge_a (k : Nat) (s : State) :
    (s.charge k).a = s.a := rfl
@[simp] theorem State.charge_b (k : Nat) (s : State) :
    (s.charge k).b = s.b := rfl
@[simp] theorem State.charge_c (k : Nat) (s : State) :
    (s.charge k).c = s.c := rfl
@[simp] theorem State.charge_d (k : Nat) (s : State) :
    (s.charge k).d = s.d := rfl
@[simp] theorem State.charge_e (k : Nat) (s : State) :
    (s.charge k).e = s.e := rfl
@[simp] theorem State.charge_h (k : Nat) (s : State) :
    (s.charge k).h = s.h := rfl
@[simp] theorem State.charge_l (k : Nat) (s : State) :
    (s.charge k).l = s.l := rfl
@[simp] theorem State.charge_ix (k : Nat) (s : State) :
    (s.charge k).ix = s.ix := rfl
@[simp] theorem State.charge_iy (k : Nat) (s : State) :
    (s.charge k).iy = s.iy := rfl
@[simp] theorem State.charge_sp (k : Nat) (s : State) :
    (s.charge k).sp = s.sp := rfl
@[simp] theorem State.charge_pc (k : Nat) (s : State) :
    (s.charge k).pc = s.pc := rfl
@[simp] theorem State.charge_f (k : Nat) (s : State) :
    (s.charge k).f = s.f := rfl
@[simp] theorem State.charge_halted (k : Nat) (s : State) :
    (s.charge k).halted = s.halted := rfl
@[simp] theorem State.charge_fault (k : Nat) (s : State) :
    (s.charge k).fault = s.fault := rfl
@[simp] theorem State.charge_mem (k : Nat) (s : State) :
    (s.charge k).mem = s.mem := rfl
@[simp] theorem State.charge_io (k : Nat) (s : State) :
    (s.charge k).io = s.io := rfl
@[simp] theorem State.charge_out (k : Nat) (s : State) :
    (s.charge k).out = ⟨some k, s.out.bus⟩ := rfl

/-! `clearOutputs` -/

@[simp] theorem State.clearOutputs_envHistory (s : State) :
    (s.clearOutputs).envHistory = s.envHistory := rfl
@[simp] theorem State.clearOutputs_env (s : State) :
    (s.clearOutputs).env = s.env := rfl
@[simp] theorem State.clearOutputs_policy (s : State) :
    (s.clearOutputs).policy = s.policy := rfl
@[simp] theorem State.clearOutputs_a (s : State) :
    (s.clearOutputs).a = s.a := rfl
@[simp] theorem State.clearOutputs_b (s : State) :
    (s.clearOutputs).b = s.b := rfl
@[simp] theorem State.clearOutputs_c (s : State) :
    (s.clearOutputs).c = s.c := rfl
@[simp] theorem State.clearOutputs_d (s : State) :
    (s.clearOutputs).d = s.d := rfl
@[simp] theorem State.clearOutputs_e (s : State) :
    (s.clearOutputs).e = s.e := rfl
@[simp] theorem State.clearOutputs_h (s : State) :
    (s.clearOutputs).h = s.h := rfl
@[simp] theorem State.clearOutputs_l (s : State) :
    (s.clearOutputs).l = s.l := rfl
@[simp] theorem State.clearOutputs_ix (s : State) :
    (s.clearOutputs).ix = s.ix := rfl
@[simp] theorem State.clearOutputs_iy (s : State) :
    (s.clearOutputs).iy = s.iy := rfl
@[simp] theorem State.clearOutputs_sp (s : State) :
    (s.clearOutputs).sp = s.sp := rfl
@[simp] theorem State.clearOutputs_pc (s : State) :
    (s.clearOutputs).pc = s.pc := rfl
@[simp] theorem State.clearOutputs_f (s : State) :
    (s.clearOutputs).f = s.f := rfl
@[simp] theorem State.clearOutputs_halted (s : State) :
    (s.clearOutputs).halted = s.halted := rfl
@[simp] theorem State.clearOutputs_fault (s : State) :
    (s.clearOutputs).fault = s.fault := rfl
@[simp] theorem State.clearOutputs_mem (s : State) :
    (s.clearOutputs).mem = s.mem := rfl
@[simp] theorem State.clearOutputs_io (s : State) :
    (s.clearOutputs).io = s.io := rfl
@[simp] theorem State.clearOutputs_out (s : State) :
    (s.clearOutputs).out = ⟨none, []⟩ := rfl

/-! `memRead` -/

@[simp] theorem State.memRead_env (x : Word) (s : State) :
    ((s.memRead x).2).env = s.env := rfl
@[simp] theorem State.memRead_policy (x : Word) (s : State) :
    ((s.memRead x).2).policy = s.policy := rfl
@[simp] theorem State.memRead_a (x : Word) (s : State) :
    ((s.memRead x).2).a = s.a := rfl
@[simp] theorem State.memRead_b (x : Word) (s : State) :
    ((s.memRead x).2).b = s.b := rfl
@[simp] theorem State.memRead_c (x : Word) (s : State) :
    ((s.memRead x).2).c = s.c := rfl
@[simp] theorem State.memRead_d (x : Word) (s : State) :
    ((s.memRead x).2).d = s.d := rfl
@[simp] theorem State.memRead_e (x : Word) (s : State) :
    ((s.memRead x).2).e = s.e := rfl
@[simp] theorem State.memRead_h (x : Word) (s : State) :
    ((s.memRead x).2).h = s.h := rfl
@[simp] theorem State.memRead_l (x : Word) (s : State) :
    ((s.memRead x).2).l = s.l := rfl
@[simp] theorem State.memRead_ix (x : Word) (s : State) :
    ((s.memRead x).2).ix = s.ix := rfl
@[simp] theorem State.memRead_iy (x : Word) (s : State) :
    ((s.memRead x).2).iy = s.iy := rfl
@[simp] theorem State.memRead_sp (x : Word) (s : State) :
    ((s.memRead x).2).sp = s.sp := rfl
@[simp] theorem State.memRead_pc (x : Word) (s : State) :
    ((s.memRead x).2).pc = s.pc := rfl
@[simp] theorem State.memRead_f (x : Word) (s : State) :
    ((s.memRead x).2).f = s.f := rfl
@[simp] theorem State.memRead_halted (x : Word) (s : State) :
    ((s.memRead x).2).halted = s.halted := rfl
@[simp] theorem State.memRead_fault (x : Word) (s : State) :
    ((s.memRead x).2).fault = s.fault := rfl
@[simp] theorem State.memRead_mem (x : Word) (s : State) :
    ((s.memRead x).2).mem = s.mem := rfl
@[simp] theorem State.memRead_io (x : Word) (s : State) :
    ((s.memRead x).2).io = s.io := rfl
@[simp] theorem State.memRead_out (x : Word) (s : State) :
    ((s.memRead x).2).out = s.out.log (.memRead x (s.byteAt x)) := rfl
@[simp] theorem State.memRead_envHistory (x : Word) (s : State) :
    ((s.memRead x).2).envHistory = s.historyAfter (.memRead x (s.byteAt x)) := rfl

/-! `memRead2` -/

@[simp] theorem State.memRead2_env (x : Word) (s : State) :
    ((s.memRead2 x).2).env = s.env := rfl
@[simp] theorem State.memRead2_policy (x : Word) (s : State) :
    ((s.memRead2 x).2).policy = s.policy := rfl
@[simp] theorem State.memRead2_a (x : Word) (s : State) :
    ((s.memRead2 x).2).a = s.a := rfl
@[simp] theorem State.memRead2_b (x : Word) (s : State) :
    ((s.memRead2 x).2).b = s.b := rfl
@[simp] theorem State.memRead2_c (x : Word) (s : State) :
    ((s.memRead2 x).2).c = s.c := rfl
@[simp] theorem State.memRead2_d (x : Word) (s : State) :
    ((s.memRead2 x).2).d = s.d := rfl
@[simp] theorem State.memRead2_e (x : Word) (s : State) :
    ((s.memRead2 x).2).e = s.e := rfl
@[simp] theorem State.memRead2_h (x : Word) (s : State) :
    ((s.memRead2 x).2).h = s.h := rfl
@[simp] theorem State.memRead2_l (x : Word) (s : State) :
    ((s.memRead2 x).2).l = s.l := rfl
@[simp] theorem State.memRead2_ix (x : Word) (s : State) :
    ((s.memRead2 x).2).ix = s.ix := rfl
@[simp] theorem State.memRead2_iy (x : Word) (s : State) :
    ((s.memRead2 x).2).iy = s.iy := rfl
@[simp] theorem State.memRead2_sp (x : Word) (s : State) :
    ((s.memRead2 x).2).sp = s.sp := rfl
@[simp] theorem State.memRead2_pc (x : Word) (s : State) :
    ((s.memRead2 x).2).pc = s.pc := rfl
@[simp] theorem State.memRead2_f (x : Word) (s : State) :
    ((s.memRead2 x).2).f = s.f := rfl
@[simp] theorem State.memRead2_halted (x : Word) (s : State) :
    ((s.memRead2 x).2).halted = s.halted := rfl
@[simp] theorem State.memRead2_fault (x : Word) (s : State) :
    ((s.memRead2 x).2).fault = s.fault := rfl
@[simp] theorem State.memRead2_mem (x : Word) (s : State) :
    ((s.memRead2 x).2).mem = s.mem := rfl
@[simp] theorem State.memRead2_io (x : Word) (s : State) :
    ((s.memRead2 x).2).io = s.io := rfl

/-! `memWrite` -/

@[simp] theorem State.memWrite_env (x : Word) (v : Byte) (s : State) :
    (s.memWrite x v).env = s.env := rfl
@[simp] theorem State.memWrite_policy (x : Word) (v : Byte) (s : State) :
    (s.memWrite x v).policy = s.policy := rfl
@[simp] theorem State.memWrite_a (x : Word) (v : Byte) (s : State) :
    (s.memWrite x v).a = s.a := rfl
@[simp] theorem State.memWrite_b (x : Word) (v : Byte) (s : State) :
    (s.memWrite x v).b = s.b := rfl
@[simp] theorem State.memWrite_c (x : Word) (v : Byte) (s : State) :
    (s.memWrite x v).c = s.c := rfl
@[simp] theorem State.memWrite_d (x : Word) (v : Byte) (s : State) :
    (s.memWrite x v).d = s.d := rfl
@[simp] theorem State.memWrite_e (x : Word) (v : Byte) (s : State) :
    (s.memWrite x v).e = s.e := rfl
@[simp] theorem State.memWrite_h (x : Word) (v : Byte) (s : State) :
    (s.memWrite x v).h = s.h := rfl
@[simp] theorem State.memWrite_l (x : Word) (v : Byte) (s : State) :
    (s.memWrite x v).l = s.l := rfl
@[simp] theorem State.memWrite_ix (x : Word) (v : Byte) (s : State) :
    (s.memWrite x v).ix = s.ix := rfl
@[simp] theorem State.memWrite_iy (x : Word) (v : Byte) (s : State) :
    (s.memWrite x v).iy = s.iy := rfl
@[simp] theorem State.memWrite_sp (x : Word) (v : Byte) (s : State) :
    (s.memWrite x v).sp = s.sp := rfl
@[simp] theorem State.memWrite_pc (x : Word) (v : Byte) (s : State) :
    (s.memWrite x v).pc = s.pc := rfl
@[simp] theorem State.memWrite_f (x : Word) (v : Byte) (s : State) :
    (s.memWrite x v).f = s.f := rfl
@[simp] theorem State.memWrite_halted (x : Word) (v : Byte) (s : State) :
    (s.memWrite x v).halted = s.halted := rfl
@[simp] theorem State.memWrite_fault (x : Word) (v : Byte) (s : State) :
    (s.memWrite x v).fault = s.fault := rfl
@[simp] theorem State.memWrite_io (x : Word) (v : Byte) (s : State) :
    (s.memWrite x v).io = s.io := rfl
@[simp] theorem State.memWrite_mem (x : Word) (v : Byte) (s : State) :
    (s.memWrite x v).mem = s.memAfterWrite x v := rfl
@[simp] theorem State.memWrite_out (x : Word) (v : Byte) (s : State) :
    (s.memWrite x v).out = s.out.log (.memWrite x v) := rfl
@[simp] theorem State.memWrite_envHistory (x : Word) (v : Byte) (s : State) :
    (s.memWrite x v).envHistory = s.historyAfter (.memWrite x v) := rfl

/-! `ioRead` -/

@[simp] theorem State.ioRead_envHistory (port : Byte) (s : State) :
    ((s.ioRead port).2).envHistory = s.envHistory := rfl
@[simp] theorem State.ioRead_env (port : Byte) (s : State) :
    ((s.ioRead port).2).env = s.env := rfl
@[simp] theorem State.ioRead_policy (port : Byte) (s : State) :
    ((s.ioRead port).2).policy = s.policy := rfl
@[simp] theorem State.ioRead_a (port : Byte) (s : State) :
    ((s.ioRead port).2).a = s.a := rfl
@[simp] theorem State.ioRead_b (port : Byte) (s : State) :
    ((s.ioRead port).2).b = s.b := rfl
@[simp] theorem State.ioRead_c (port : Byte) (s : State) :
    ((s.ioRead port).2).c = s.c := rfl
@[simp] theorem State.ioRead_d (port : Byte) (s : State) :
    ((s.ioRead port).2).d = s.d := rfl
@[simp] theorem State.ioRead_e (port : Byte) (s : State) :
    ((s.ioRead port).2).e = s.e := rfl
@[simp] theorem State.ioRead_h (port : Byte) (s : State) :
    ((s.ioRead port).2).h = s.h := rfl
@[simp] theorem State.ioRead_l (port : Byte) (s : State) :
    ((s.ioRead port).2).l = s.l := rfl
@[simp] theorem State.ioRead_ix (port : Byte) (s : State) :
    ((s.ioRead port).2).ix = s.ix := rfl
@[simp] theorem State.ioRead_iy (port : Byte) (s : State) :
    ((s.ioRead port).2).iy = s.iy := rfl
@[simp] theorem State.ioRead_sp (port : Byte) (s : State) :
    ((s.ioRead port).2).sp = s.sp := rfl
@[simp] theorem State.ioRead_pc (port : Byte) (s : State) :
    ((s.ioRead port).2).pc = s.pc := rfl
@[simp] theorem State.ioRead_f (port : Byte) (s : State) :
    ((s.ioRead port).2).f = s.f := rfl
@[simp] theorem State.ioRead_halted (port : Byte) (s : State) :
    ((s.ioRead port).2).halted = s.halted := rfl
@[simp] theorem State.ioRead_fault (port : Byte) (s : State) :
    ((s.ioRead port).2).fault = s.fault := rfl
@[simp] theorem State.ioRead_mem (port : Byte) (s : State) :
    ((s.ioRead port).2).mem = s.mem := rfl
@[simp] theorem State.ioRead_io (port : Byte) (s : State) :
    ((s.ioRead port).2).io = s.io := rfl

/-! `ioWrite` -/

@[simp] theorem State.ioWrite_envHistory (port v : Byte) (s : State) :
    (s.ioWrite port v).envHistory = s.envHistory := rfl
@[simp] theorem State.ioWrite_env (port v : Byte) (s : State) :
    (s.ioWrite port v).env = s.env := rfl
@[simp] theorem State.ioWrite_policy (port v : Byte) (s : State) :
    (s.ioWrite port v).policy = s.policy := rfl
@[simp] theorem State.ioWrite_a (port v : Byte) (s : State) :
    (s.ioWrite port v).a = s.a := rfl
@[simp] theorem State.ioWrite_b (port v : Byte) (s : State) :
    (s.ioWrite port v).b = s.b := rfl
@[simp] theorem State.ioWrite_c (port v : Byte) (s : State) :
    (s.ioWrite port v).c = s.c := rfl
@[simp] theorem State.ioWrite_d (port v : Byte) (s : State) :
    (s.ioWrite port v).d = s.d := rfl
@[simp] theorem State.ioWrite_e (port v : Byte) (s : State) :
    (s.ioWrite port v).e = s.e := rfl
@[simp] theorem State.ioWrite_h (port v : Byte) (s : State) :
    (s.ioWrite port v).h = s.h := rfl
@[simp] theorem State.ioWrite_l (port v : Byte) (s : State) :
    (s.ioWrite port v).l = s.l := rfl
@[simp] theorem State.ioWrite_ix (port v : Byte) (s : State) :
    (s.ioWrite port v).ix = s.ix := rfl
@[simp] theorem State.ioWrite_iy (port v : Byte) (s : State) :
    (s.ioWrite port v).iy = s.iy := rfl
@[simp] theorem State.ioWrite_sp (port v : Byte) (s : State) :
    (s.ioWrite port v).sp = s.sp := rfl
@[simp] theorem State.ioWrite_pc (port v : Byte) (s : State) :
    (s.ioWrite port v).pc = s.pc := rfl
@[simp] theorem State.ioWrite_f (port v : Byte) (s : State) :
    (s.ioWrite port v).f = s.f := rfl
@[simp] theorem State.ioWrite_halted (port v : Byte) (s : State) :
    (s.ioWrite port v).halted = s.halted := rfl
@[simp] theorem State.ioWrite_fault (port v : Byte) (s : State) :
    (s.ioWrite port v).fault = s.fault := rfl
@[simp] theorem State.ioWrite_mem (port v : Byte) (s : State) :
    (s.ioWrite port v).mem = s.mem := rfl
@[simp] theorem State.ioWrite_io (port v : Byte) (s : State) :
    (s.ioWrite port v).io = Memory.insert s.io port.toNat v := rfl

/-! `setBC` -/

@[simp] theorem State.setBC_out (w : Word) (s : State) :
    (s.setBC w).out = s.out := rfl
@[simp] theorem State.setBC_envHistory (w : Word) (s : State) :
    (s.setBC w).envHistory = s.envHistory := rfl
@[simp] theorem State.setBC_env (w : Word) (s : State) :
    (s.setBC w).env = s.env := rfl
@[simp] theorem State.setBC_policy (w : Word) (s : State) :
    (s.setBC w).policy = s.policy := rfl
@[simp] theorem State.setBC_a (w : Word) (s : State) :
    (s.setBC w).a = s.a := rfl
@[simp] theorem State.setBC_d (w : Word) (s : State) :
    (s.setBC w).d = s.d := rfl
@[simp] theorem State.setBC_e (w : Word) (s : State) :
    (s.setBC w).e = s.e := rfl
@[simp] theorem State.setBC_h (w : Word) (s : State) :
    (s.setBC w).h = s.h := rfl
@[simp] theorem State.setBC_l (w : Word) (s : State) :
    (s.setBC w).l = s.l := rfl
@[simp] theorem State.setBC_ix (w : Word) (s : State) :
    (s.setBC w).ix = s.ix := rfl
@[simp] theorem State.setBC_iy (w : Word) (s : State) :
    (s.setBC w).iy = s.iy := rfl
@[simp] theorem State.setBC_sp (w : Word) (s : State) :
    (s.setBC w).sp = s.sp := rfl
@[simp] theorem State.setBC_pc (w : Word) (s : State) :
    (s.setBC w).pc = s.pc := rfl
@[simp] theorem State.setBC_f (w : Word) (s : State) :
    (s.setBC w).f = s.f := rfl
@[simp] theorem State.setBC_halted (w : Word) (s : State) :
    (s.setBC w).halted = s.halted := rfl
@[simp] theorem State.setBC_fault (w : Word) (s : State) :
    (s.setBC w).fault = s.fault := rfl
@[simp] theorem State.setBC_mem (w : Word) (s : State) :
    (s.setBC w).mem = s.mem := rfl
@[simp] theorem State.setBC_io (w : Word) (s : State) :
    (s.setBC w).io = s.io := rfl
@[simp] theorem State.setBC_b (w : Word) (s : State) :
    (s.setBC w).b = hi8 w := rfl
@[simp] theorem State.setBC_c (w : Word) (s : State) :
    (s.setBC w).c = lo8 w := rfl

/-! `setDE` -/

@[simp] theorem State.setDE_out (w : Word) (s : State) :
    (s.setDE w).out = s.out := rfl
@[simp] theorem State.setDE_envHistory (w : Word) (s : State) :
    (s.setDE w).envHistory = s.envHistory := rfl
@[simp] theorem State.setDE_env (w : Word) (s : State) :
    (s.setDE w).env = s.env := rfl
@[simp] theorem State.setDE_policy (w : Word) (s : State) :
    (s.setDE w).policy = s.policy := rfl
@[simp] theorem State.setDE_a (w : Word) (s : State) :
    (s.setDE w).a = s.a := rfl
@[simp] theorem State.setDE_b (w : Word) (s : State) :
    (s.setDE w).b = s.b := rfl
@[simp] theorem State.setDE_c (w : Word) (s : State) :
    (s.setDE w).c = s.c := rfl
@[simp] theorem State.setDE_h (w : Word) (s : State) :
    (s.setDE w).h = s.h := rfl
@[simp] theorem State.setDE_l (w : Word) (s : State) :
    (s.setDE w).l = s.l := rfl
@[simp] theorem State.setDE_ix (w : Word) (s : State) :
    (s.setDE w).ix = s.ix := rfl
@[simp] theorem State.setDE_iy (w : Word) (s : State) :
    (s.setDE w).iy = s.iy := rfl
@[simp] theorem State.setDE_sp (w : Word) (s : State) :
    (s.setDE w).sp = s.sp := rfl
@[simp] theorem State.setDE_pc (w : Word) (s : State) :
    (s.setDE w).pc = s.pc := rfl
@[simp] theorem State.setDE_f (w : Word) (s : State) :
    (s.setDE w).f = s.f := rfl
@[simp] theorem State.setDE_halted (w : Word) (s : State) :
    (s.setDE w).halted = s.halted := rfl
@[simp] theorem State.setDE_fault (w : Word) (s : State) :
    (s.setDE w).fault = s.fault := rfl
@[simp] theorem State.setDE_mem (w : Word) (s : State) :
    (s.setDE w).mem = s.mem := rfl
@[simp] theorem State.setDE_io (w : Word) (s : State) :
    (s.setDE w).io = s.io := rfl
@[simp] theorem State.setDE_d (w : Word) (s : State) :
    (s.setDE w).d = hi8 w := rfl
@[simp] theorem State.setDE_e (w : Word) (s : State) :
    (s.setDE w).e = lo8 w := rfl

/-! `setHL` -/

@[simp] theorem State.setHL_out (w : Word) (s : State) :
    (s.setHL w).out = s.out := rfl
@[simp] theorem State.setHL_envHistory (w : Word) (s : State) :
    (s.setHL w).envHistory = s.envHistory := rfl
@[simp] theorem State.setHL_env (w : Word) (s : State) :
    (s.setHL w).env = s.env := rfl
@[simp] theorem State.setHL_policy (w : Word) (s : State) :
    (s.setHL w).policy = s.policy := rfl
@[simp] theorem State.setHL_a (w : Word) (s : State) :
    (s.setHL w).a = s.a := rfl
@[simp] theorem State.setHL_b (w : Word) (s : State) :
    (s.setHL w).b = s.b := rfl
@[simp] theorem State.setHL_c (w : Word) (s : State) :
    (s.setHL w).c = s.c := rfl
@[simp] theorem State.setHL_d (w : Word) (s : State) :
    (s.setHL w).d = s.d := rfl
@[simp] theorem State.setHL_e (w : Word) (s : State) :
    (s.setHL w).e = s.e := rfl
@[simp] theorem State.setHL_ix (w : Word) (s : State) :
    (s.setHL w).ix = s.ix := rfl
@[simp] theorem State.setHL_iy (w : Word) (s : State) :
    (s.setHL w).iy = s.iy := rfl
@[simp] theorem State.setHL_sp (w : Word) (s : State) :
    (s.setHL w).sp = s.sp := rfl
@[simp] theorem State.setHL_pc (w : Word) (s : State) :
    (s.setHL w).pc = s.pc := rfl
@[simp] theorem State.setHL_f (w : Word) (s : State) :
    (s.setHL w).f = s.f := rfl
@[simp] theorem State.setHL_halted (w : Word) (s : State) :
    (s.setHL w).halted = s.halted := rfl
@[simp] theorem State.setHL_fault (w : Word) (s : State) :
    (s.setHL w).fault = s.fault := rfl
@[simp] theorem State.setHL_mem (w : Word) (s : State) :
    (s.setHL w).mem = s.mem := rfl
@[simp] theorem State.setHL_io (w : Word) (s : State) :
    (s.setHL w).io = s.io := rfl
@[simp] theorem State.setHL_h (w : Word) (s : State) :
    (s.setHL w).h = hi8 w := rfl
@[simp] theorem State.setHL_l (w : Word) (s : State) :
    (s.setHL w).l = lo8 w := rfl

/-! `push16` -/

@[simp] theorem State.push16_env (w : Word) (s : State) :
    (s.push16 w).env = s.env := rfl
@[simp] theorem State.push16_policy (w : Word) (s : State) :
    (s.push16 w).policy = s.policy := rfl
@[simp] theorem State.push16_a (w : Word) (s : State) :
    (s.push16 w).a = s.a := rfl
@[simp] theorem State.push16_b (w : Word) (s : State) :
    (s.push16 w).b = s.b := rfl
@[simp] theorem State.push16_c (w : Word) (s : State) :
    (s.push16 w).c = s.c := rfl
@[simp] theorem State.push16_d (w : Word) (s : State) :
    (s.push16 w).d = s.d := rfl
@[simp] theorem State.push16_e (w : Word) (s : State) :
    (s.push16 w).e = s.e := rfl
@[simp] theorem State.push16_h (w : Word) (s : State) :
    (s.push16 w).h = s.h := rfl
@[simp] theorem State.push16_l (w : Word) (s : State) :
    (s.push16 w).l = s.l := rfl
@[simp] theorem State.push16_ix (w : Word) (s : State) :
    (s.push16 w).ix = s.ix := rfl
@[simp] theorem State.push16_iy (w : Word) (s : State) :
    (s.push16 w).iy = s.iy := rfl
@[simp] theorem State.push16_pc (w : Word) (s : State) :
    (s.push16 w).pc = s.pc := rfl
@[simp] theorem State.push16_f (w : Word) (s : State) :
    (s.push16 w).f = s.f := rfl
@[simp] theorem State.push16_halted (w : Word) (s : State) :
    (s.push16 w).halted = s.halted := rfl
@[simp] theorem State.push16_fault (w : Word) (s : State) :
    (s.push16 w).fault = s.fault := rfl
@[simp] theorem State.push16_io (w : Word) (s : State) :
    (s.push16 w).io = s.io := rfl
@[simp] theorem State.push16_sp (w : Word) (s : State) :
    (s.push16 w).sp = s.sp - 2#16 := rfl

/-! `pop16` -/

@[simp] theorem State.pop16_env (s : State) :
    (s.pop16.2).env = s.env := rfl
@[simp] theorem State.pop16_policy (s : State) :
    (s.pop16.2).policy = s.policy := rfl
@[simp] theorem State.pop16_a (s : State) :
    (s.pop16.2).a = s.a := rfl
@[simp] theorem State.pop16_b (s : State) :
    (s.pop16.2).b = s.b := rfl
@[simp] theorem State.pop16_c (s : State) :
    (s.pop16.2).c = s.c := rfl
@[simp] theorem State.pop16_d (s : State) :
    (s.pop16.2).d = s.d := rfl
@[simp] theorem State.pop16_e (s : State) :
    (s.pop16.2).e = s.e := rfl
@[simp] theorem State.pop16_h (s : State) :
    (s.pop16.2).h = s.h := rfl
@[simp] theorem State.pop16_l (s : State) :
    (s.pop16.2).l = s.l := rfl
@[simp] theorem State.pop16_ix (s : State) :
    (s.pop16.2).ix = s.ix := rfl
@[simp] theorem State.pop16_iy (s : State) :
    (s.pop16.2).iy = s.iy := rfl
@[simp] theorem State.pop16_pc (s : State) :
    (s.pop16.2).pc = s.pc := rfl
@[simp] theorem State.pop16_f (s : State) :
    (s.pop16.2).f = s.f := rfl
@[simp] theorem State.pop16_halted (s : State) :
    (s.pop16.2).halted = s.halted := rfl
@[simp] theorem State.pop16_fault (s : State) :
    (s.pop16.2).fault = s.fault := rfl
@[simp] theorem State.pop16_mem (s : State) :
    (s.pop16.2).mem = s.mem := rfl
@[simp] theorem State.pop16_io (s : State) :
    (s.pop16.2).io = s.io := rfl
@[simp] theorem State.pop16_sp (s : State) :
    (s.pop16.2).sp = s.sp + 2#16 := rfl

/-! `pushJump` -/

@[simp] theorem State.pushJump_env (x : Word) (s : State) :
    (s.pushJump x).env = s.env := rfl
@[simp] theorem State.pushJump_policy (x : Word) (s : State) :
    (s.pushJump x).policy = s.policy := rfl
@[simp] theorem State.pushJump_a (x : Word) (s : State) :
    (s.pushJump x).a = s.a := rfl
@[simp] theorem State.pushJump_b (x : Word) (s : State) :
    (s.pushJump x).b = s.b := rfl
@[simp] theorem State.pushJump_c (x : Word) (s : State) :
    (s.pushJump x).c = s.c := rfl
@[simp] theorem State.pushJump_d (x : Word) (s : State) :
    (s.pushJump x).d = s.d := rfl
@[simp] theorem State.pushJump_e (x : Word) (s : State) :
    (s.pushJump x).e = s.e := rfl
@[simp] theorem State.pushJump_h (x : Word) (s : State) :
    (s.pushJump x).h = s.h := rfl
@[simp] theorem State.pushJump_l (x : Word) (s : State) :
    (s.pushJump x).l = s.l := rfl
@[simp] theorem State.pushJump_ix (x : Word) (s : State) :
    (s.pushJump x).ix = s.ix := rfl
@[simp] theorem State.pushJump_iy (x : Word) (s : State) :
    (s.pushJump x).iy = s.iy := rfl
@[simp] theorem State.pushJump_f (x : Word) (s : State) :
    (s.pushJump x).f = s.f := rfl
@[simp] theorem State.pushJump_halted (x : Word) (s : State) :
    (s.pushJump x).halted = s.halted := rfl
@[simp] theorem State.pushJump_fault (x : Word) (s : State) :
    (s.pushJump x).fault = s.fault := rfl
@[simp] theorem State.pushJump_io (x : Word) (s : State) :
    (s.pushJump x).io = s.io := rfl
@[simp] theorem State.pushJump_sp (x : Word) (s : State) :
    (s.pushJump x).sp = s.sp - 2#16 := rfl
@[simp] theorem State.pushJump_pc (x : Word) (s : State) :
    (s.pushJump x).pc = x := rfl

/-! `popPC` -/

@[simp] theorem State.popPC_env (s : State) :
    (s.popPC).env = s.env := rfl
@[simp] theorem State.popPC_policy (s : State) :
    (s.popPC).policy = s.policy := rfl
@[simp] theorem State.popPC_a (s : State) :
    (s.popPC).a = s.a := rfl
@[simp] theorem State.popPC_b (s : State) :
    (s.popPC).b = s.b := rfl
@[simp] theorem State.popPC_c (s : State) :
    (s.popPC).c = s.c := rfl
@[simp] theorem State.popPC_d (s : State) :
    (s.popPC).d = s.d := rfl
@[simp] theorem State.popPC_e (s : State) :
    (s.popPC).e = s.e := rfl
@[simp] theorem State.popPC_h (s : State) :
    (s.popPC).h = s.h := rfl
@[simp] theorem State.popPC_l (s : State) :
    (s.popPC).l = s.l := rfl
@[simp] theorem State.popPC_ix (s : State) :
    (s.popPC).ix = s.ix := rfl
@[simp] theorem State.popPC_iy (s : State) :
    (s.popPC).iy = s.iy := rfl
@[simp] theorem State.popPC_f (s : State) :
    (s.popPC).f = s.f := rfl
@[simp] theorem State.popPC_halted (s : State) :
    (s.popPC).halted = s.halted := rfl
@[simp] theorem State.popPC_fault (s : State) :
    (s.popPC).fault = s.fault := rfl
@[simp] theorem State.popPC_mem (s : State) :
    (s.popPC).mem = s.mem := rfl
@[simp] theorem State.popPC_io (s : State) :
    (s.popPC).io = s.io := rfl
@[simp] theorem State.popPC_sp (s : State) :
    (s.popPC).sp = s.sp + 2#16 := rfl
@[simp] theorem State.popPC_pc (s : State) :
    (s.popPC).pc = s.wordAt s.sp := rfl

/-! `takeDecodeError` -/

@[simp] theorem State.takeDecodeError_envHistory (x : Word) (v : Byte) (s : State) :
    (s.takeDecodeError x v).envHistory = s.envHistory := rfl
@[simp] theorem State.takeDecodeError_env (x : Word) (v : Byte) (s : State) :
    (s.takeDecodeError x v).env = s.env := rfl
@[simp] theorem State.takeDecodeError_policy (x : Word) (v : Byte) (s : State) :
    (s.takeDecodeError x v).policy = s.policy := rfl
@[simp] theorem State.takeDecodeError_a (x : Word) (v : Byte) (s : State) :
    (s.takeDecodeError x v).a = s.a := rfl
@[simp] theorem State.takeDecodeError_b (x : Word) (v : Byte) (s : State) :
    (s.takeDecodeError x v).b = s.b := rfl
@[simp] theorem State.takeDecodeError_c (x : Word) (v : Byte) (s : State) :
    (s.takeDecodeError x v).c = s.c := rfl
@[simp] theorem State.takeDecodeError_d (x : Word) (v : Byte) (s : State) :
    (s.takeDecodeError x v).d = s.d := rfl
@[simp] theorem State.takeDecodeError_e (x : Word) (v : Byte) (s : State) :
    (s.takeDecodeError x v).e = s.e := rfl
@[simp] theorem State.takeDecodeError_h (x : Word) (v : Byte) (s : State) :
    (s.takeDecodeError x v).h = s.h := rfl
@[simp] theorem State.takeDecodeError_l (x : Word) (v : Byte) (s : State) :
    (s.takeDecodeError x v).l = s.l := rfl
@[simp] theorem State.takeDecodeError_ix (x : Word) (v : Byte) (s : State) :
    (s.takeDecodeError x v).ix = s.ix := rfl
@[simp] theorem State.takeDecodeError_iy (x : Word) (v : Byte) (s : State) :
    (s.takeDecodeError x v).iy = s.iy := rfl
@[simp] theorem State.takeDecodeError_sp (x : Word) (v : Byte) (s : State) :
    (s.takeDecodeError x v).sp = s.sp := rfl
@[simp] theorem State.takeDecodeError_f (x : Word) (v : Byte) (s : State) :
    (s.takeDecodeError x v).f = s.f := rfl
@[simp] theorem State.takeDecodeError_halted (x : Word) (v : Byte) (s : State) :
    (s.takeDecodeError x v).halted = s.halted := rfl
@[simp] theorem State.takeDecodeError_mem (x : Word) (v : Byte) (s : State) :
    (s.takeDecodeError x v).mem = s.mem := rfl
@[simp] theorem State.takeDecodeError_io (x : Word) (v : Byte) (s : State) :
    (s.takeDecodeError x v).io = s.io := rfl
@[simp] theorem State.takeDecodeError_pc (x : Word) (v : Byte) (s : State) :
    (s.takeDecodeError x v).pc = x := rfl
@[simp] theorem State.takeDecodeError_fault (x : Word) (v : Byte) (s : State) :
    (s.takeDecodeError x v).fault = some ⟨x, v⟩ := rfl
@[simp] theorem State.takeDecodeError_out (x : Word) (v : Byte) (s : State) :
    (s.takeDecodeError x v).out = ⟨none, s.out.bus⟩ := rfl

/-! Updates that depend on an operand -/

/-! `setReg8` -/

@[simp] theorem State.setReg8_out (r : Reg8) (v : Byte) (s : State) :
    (s.setReg8 r v).out = s.out := by cases r <;> rfl
@[simp] theorem State.setReg8_envHistory (r : Reg8) (v : Byte) (s : State) :
    (s.setReg8 r v).envHistory = s.envHistory := by cases r <;> rfl
@[simp] theorem State.setReg8_env (r : Reg8) (v : Byte) (s : State) :
    (s.setReg8 r v).env = s.env := by cases r <;> rfl
@[simp] theorem State.setReg8_policy (r : Reg8) (v : Byte) (s : State) :
    (s.setReg8 r v).policy = s.policy := by cases r <;> rfl
@[simp] theorem State.setReg8_ix (r : Reg8) (v : Byte) (s : State) :
    (s.setReg8 r v).ix = s.ix := by cases r <;> rfl
@[simp] theorem State.setReg8_iy (r : Reg8) (v : Byte) (s : State) :
    (s.setReg8 r v).iy = s.iy := by cases r <;> rfl
@[simp] theorem State.setReg8_sp (r : Reg8) (v : Byte) (s : State) :
    (s.setReg8 r v).sp = s.sp := by cases r <;> rfl
@[simp] theorem State.setReg8_pc (r : Reg8) (v : Byte) (s : State) :
    (s.setReg8 r v).pc = s.pc := by cases r <;> rfl
@[simp] theorem State.setReg8_f (r : Reg8) (v : Byte) (s : State) :
    (s.setReg8 r v).f = s.f := by cases r <;> rfl
@[simp] theorem State.setReg8_halted (r : Reg8) (v : Byte) (s : State) :
    (s.setReg8 r v).halted = s.halted := by cases r <;> rfl
@[simp] theorem State.setReg8_fault (r : Reg8) (v : Byte) (s : State) :
    (s.setReg8 r v).fault = s.fault := by cases r <;> rfl
@[simp] theorem State.setReg8_mem (r : Reg8) (v : Byte) (s : State) :
    (s.setReg8 r v).mem = s.mem := by cases r <;> rfl
@[simp] theorem State.setReg8_io (r : Reg8) (v : Byte) (s : State) :
    (s.setReg8 r v).io = s.io := by cases r <;> rfl

/-! `setPair` -/

@[simp] theorem State.setPair_out (q : Pair16) (w : Word) (s : State) :
    (s.setPair q w).out = s.out := by cases q <;> rfl
@[simp] theorem State.setPair_envHistory (q : Pair16) (w : Word) (s : State) :
    (s.setPair q w).envHistory = s.envHistory := by cases q <;> rfl
@[simp] theorem State.setPair_env (q : Pair16) (w : Word) (s : State) :
    (s.setPair q w).env = s.env := by cases q <;> rfl
@[simp] theorem State.setPair_policy (q : Pair16) (w : Word) (s : State) :
    (s.setPair q w).policy = s.policy := by cases q <;> rfl
@[simp] theorem State.setPair_a (q : Pair16) (w : Word) (s : State) :
    (s.setPair q w).a = s.a := by cases q <;> rfl
@[simp] theorem State.setPair_pc (q : Pair16) (w : Word) (s : State) :
    (s.setPair q w).pc = s.pc := by cases q <;> rfl
@[simp] theorem State.setPair_f (q : Pair16) (w : Word) (s : State) :
    (s.setPair q w).f = s.f := by cases q <;> rfl
@[simp] theorem State.setPair_halted (q : Pair16) (w : Word) (s : State) :
    (s.setPair q w).halted = s.halted := by cases q <;> rfl
@[simp] theorem State.setPair_fault (q : Pair16) (w : Word) (s : State) :
    (s.setPair q w).fault = s.fault := by cases q <;> rfl
@[simp] theorem State.setPair_mem (q : Pair16) (w : Word) (s : State) :
    (s.setPair q w).mem = s.mem := by cases q <;> rfl
@[simp] theorem State.setPair_io (q : Pair16) (w : Word) (s : State) :
    (s.setPair q w).io = s.io := by cases q <;> rfl

/-! `setBase` -/

@[simp] theorem State.setBase_out (x : Base16) (w : Word) (s : State) :
    (s.setBase x w).out = s.out := by cases x <;> rfl
@[simp] theorem State.setBase_envHistory (x : Base16) (w : Word) (s : State) :
    (s.setBase x w).envHistory = s.envHistory := by cases x <;> rfl
@[simp] theorem State.setBase_env (x : Base16) (w : Word) (s : State) :
    (s.setBase x w).env = s.env := by cases x <;> rfl
@[simp] theorem State.setBase_policy (x : Base16) (w : Word) (s : State) :
    (s.setBase x w).policy = s.policy := by cases x <;> rfl
@[simp] theorem State.setBase_a (x : Base16) (w : Word) (s : State) :
    (s.setBase x w).a = s.a := by cases x <;> rfl
@[simp] theorem State.setBase_b (x : Base16) (w : Word) (s : State) :
    (s.setBase x w).b = s.b := by cases x <;> rfl
@[simp] theorem State.setBase_c (x : Base16) (w : Word) (s : State) :
    (s.setBase x w).c = s.c := by cases x <;> rfl
@[simp] theorem State.setBase_d (x : Base16) (w : Word) (s : State) :
    (s.setBase x w).d = s.d := by cases x <;> rfl
@[simp] theorem State.setBase_e (x : Base16) (w : Word) (s : State) :
    (s.setBase x w).e = s.e := by cases x <;> rfl
@[simp] theorem State.setBase_sp (x : Base16) (w : Word) (s : State) :
    (s.setBase x w).sp = s.sp := by cases x <;> rfl
@[simp] theorem State.setBase_pc (x : Base16) (w : Word) (s : State) :
    (s.setBase x w).pc = s.pc := by cases x <;> rfl
@[simp] theorem State.setBase_f (x : Base16) (w : Word) (s : State) :
    (s.setBase x w).f = s.f := by cases x <;> rfl
@[simp] theorem State.setBase_halted (x : Base16) (w : Word) (s : State) :
    (s.setBase x w).halted = s.halted := by cases x <;> rfl
@[simp] theorem State.setBase_fault (x : Base16) (w : Word) (s : State) :
    (s.setBase x w).fault = s.fault := by cases x <;> rfl
@[simp] theorem State.setBase_mem (x : Base16) (w : Word) (s : State) :
    (s.setBase x w).mem = s.mem := by cases x <;> rfl
@[simp] theorem State.setBase_io (x : Base16) (w : Word) (s : State) :
    (s.setBase x w).io = s.io := by cases x <;> rfl

/-! `setStackReg` -/

@[simp] theorem State.setStackReg_out (q : StackReg) (w : Word) (s : State) :
    (s.setStackReg q w).out = s.out := by cases q <;> rfl
@[simp] theorem State.setStackReg_envHistory (q : StackReg) (w : Word) (s : State) :
    (s.setStackReg q w).envHistory = s.envHistory := by cases q <;> rfl
@[simp] theorem State.setStackReg_env (q : StackReg) (w : Word) (s : State) :
    (s.setStackReg q w).env = s.env := by cases q <;> rfl
@[simp] theorem State.setStackReg_policy (q : StackReg) (w : Word) (s : State) :
    (s.setStackReg q w).policy = s.policy := by cases q <;> rfl
@[simp] theorem State.setStackReg_sp (q : StackReg) (w : Word) (s : State) :
    (s.setStackReg q w).sp = s.sp := by cases q <;> rfl
@[simp] theorem State.setStackReg_pc (q : StackReg) (w : Word) (s : State) :
    (s.setStackReg q w).pc = s.pc := by cases q <;> rfl
@[simp] theorem State.setStackReg_halted (q : StackReg) (w : Word) (s : State) :
    (s.setStackReg q w).halted = s.halted := by cases q <;> rfl
@[simp] theorem State.setStackReg_fault (q : StackReg) (w : Word) (s : State) :
    (s.setStackReg q w).fault = s.fault := by cases q <;> rfl
@[simp] theorem State.setStackReg_mem (q : StackReg) (w : Word) (s : State) :
    (s.setStackReg q w).mem = s.mem := by cases q <;> rfl
@[simp] theorem State.setStackReg_io (q : StackReg) (w : Word) (s : State) :
    (s.setStackReg q w).io = s.io := by cases q <;> rfl

/-! `readPlace` -/

@[simp] theorem State.readPlace_env (m : Place8) (s : State) :
    ((s.readPlace m).2).env = s.env := by cases m <;> rfl
@[simp] theorem State.readPlace_policy (m : Place8) (s : State) :
    ((s.readPlace m).2).policy = s.policy := by cases m <;> rfl
@[simp] theorem State.readPlace_a (m : Place8) (s : State) :
    ((s.readPlace m).2).a = s.a := by cases m <;> rfl
@[simp] theorem State.readPlace_b (m : Place8) (s : State) :
    ((s.readPlace m).2).b = s.b := by cases m <;> rfl
@[simp] theorem State.readPlace_c (m : Place8) (s : State) :
    ((s.readPlace m).2).c = s.c := by cases m <;> rfl
@[simp] theorem State.readPlace_d (m : Place8) (s : State) :
    ((s.readPlace m).2).d = s.d := by cases m <;> rfl
@[simp] theorem State.readPlace_e (m : Place8) (s : State) :
    ((s.readPlace m).2).e = s.e := by cases m <;> rfl
@[simp] theorem State.readPlace_h (m : Place8) (s : State) :
    ((s.readPlace m).2).h = s.h := by cases m <;> rfl
@[simp] theorem State.readPlace_l (m : Place8) (s : State) :
    ((s.readPlace m).2).l = s.l := by cases m <;> rfl
@[simp] theorem State.readPlace_ix (m : Place8) (s : State) :
    ((s.readPlace m).2).ix = s.ix := by cases m <;> rfl
@[simp] theorem State.readPlace_iy (m : Place8) (s : State) :
    ((s.readPlace m).2).iy = s.iy := by cases m <;> rfl
@[simp] theorem State.readPlace_sp (m : Place8) (s : State) :
    ((s.readPlace m).2).sp = s.sp := by cases m <;> rfl
@[simp] theorem State.readPlace_pc (m : Place8) (s : State) :
    ((s.readPlace m).2).pc = s.pc := by cases m <;> rfl
@[simp] theorem State.readPlace_f (m : Place8) (s : State) :
    ((s.readPlace m).2).f = s.f := by cases m <;> rfl
@[simp] theorem State.readPlace_halted (m : Place8) (s : State) :
    ((s.readPlace m).2).halted = s.halted := by cases m <;> rfl
@[simp] theorem State.readPlace_fault (m : Place8) (s : State) :
    ((s.readPlace m).2).fault = s.fault := by cases m <;> rfl
@[simp] theorem State.readPlace_mem (m : Place8) (s : State) :
    ((s.readPlace m).2).mem = s.mem := by cases m <;> rfl
@[simp] theorem State.readPlace_io (m : Place8) (s : State) :
    ((s.readPlace m).2).io = s.io := by cases m <;> rfl

/-! `readSrc` -/

@[simp] theorem State.readSrc_env (src : Src8) (s : State) :
    ((s.readSrc src).2).env = s.env := by cases src with
  | loc m => cases m <;> rfl
  | imm n => rfl
@[simp] theorem State.readSrc_policy (src : Src8) (s : State) :
    ((s.readSrc src).2).policy = s.policy := by cases src with
  | loc m => cases m <;> rfl
  | imm n => rfl
@[simp] theorem State.readSrc_a (src : Src8) (s : State) :
    ((s.readSrc src).2).a = s.a := by cases src with
  | loc m => cases m <;> rfl
  | imm n => rfl
@[simp] theorem State.readSrc_b (src : Src8) (s : State) :
    ((s.readSrc src).2).b = s.b := by cases src with
  | loc m => cases m <;> rfl
  | imm n => rfl
@[simp] theorem State.readSrc_c (src : Src8) (s : State) :
    ((s.readSrc src).2).c = s.c := by cases src with
  | loc m => cases m <;> rfl
  | imm n => rfl
@[simp] theorem State.readSrc_d (src : Src8) (s : State) :
    ((s.readSrc src).2).d = s.d := by cases src with
  | loc m => cases m <;> rfl
  | imm n => rfl
@[simp] theorem State.readSrc_e (src : Src8) (s : State) :
    ((s.readSrc src).2).e = s.e := by cases src with
  | loc m => cases m <;> rfl
  | imm n => rfl
@[simp] theorem State.readSrc_h (src : Src8) (s : State) :
    ((s.readSrc src).2).h = s.h := by cases src with
  | loc m => cases m <;> rfl
  | imm n => rfl
@[simp] theorem State.readSrc_l (src : Src8) (s : State) :
    ((s.readSrc src).2).l = s.l := by cases src with
  | loc m => cases m <;> rfl
  | imm n => rfl
@[simp] theorem State.readSrc_ix (src : Src8) (s : State) :
    ((s.readSrc src).2).ix = s.ix := by cases src with
  | loc m => cases m <;> rfl
  | imm n => rfl
@[simp] theorem State.readSrc_iy (src : Src8) (s : State) :
    ((s.readSrc src).2).iy = s.iy := by cases src with
  | loc m => cases m <;> rfl
  | imm n => rfl
@[simp] theorem State.readSrc_sp (src : Src8) (s : State) :
    ((s.readSrc src).2).sp = s.sp := by cases src with
  | loc m => cases m <;> rfl
  | imm n => rfl
@[simp] theorem State.readSrc_pc (src : Src8) (s : State) :
    ((s.readSrc src).2).pc = s.pc := by cases src with
  | loc m => cases m <;> rfl
  | imm n => rfl
@[simp] theorem State.readSrc_f (src : Src8) (s : State) :
    ((s.readSrc src).2).f = s.f := by cases src with
  | loc m => cases m <;> rfl
  | imm n => rfl
@[simp] theorem State.readSrc_halted (src : Src8) (s : State) :
    ((s.readSrc src).2).halted = s.halted := by cases src with
  | loc m => cases m <;> rfl
  | imm n => rfl
@[simp] theorem State.readSrc_fault (src : Src8) (s : State) :
    ((s.readSrc src).2).fault = s.fault := by cases src with
  | loc m => cases m <;> rfl
  | imm n => rfl
@[simp] theorem State.readSrc_mem (src : Src8) (s : State) :
    ((s.readSrc src).2).mem = s.mem := by cases src with
  | loc m => cases m <;> rfl
  | imm n => rfl
@[simp] theorem State.readSrc_io (src : Src8) (s : State) :
    ((s.readSrc src).2).io = s.io := by cases src with
  | loc m => cases m <;> rfl
  | imm n => rfl

/-! `writePlace` -/

@[simp] theorem State.writePlace_env (m : Place8) (v : Byte) (s : State) :
    (s.writePlace m v).env = s.env := by cases m <;> simp [State.writePlace]
@[simp] theorem State.writePlace_policy (m : Place8) (v : Byte) (s : State) :
    (s.writePlace m v).policy = s.policy := by cases m <;> simp [State.writePlace]
@[simp] theorem State.writePlace_ix (m : Place8) (v : Byte) (s : State) :
    (s.writePlace m v).ix = s.ix := by cases m <;> simp [State.writePlace]
@[simp] theorem State.writePlace_iy (m : Place8) (v : Byte) (s : State) :
    (s.writePlace m v).iy = s.iy := by cases m <;> simp [State.writePlace]
@[simp] theorem State.writePlace_sp (m : Place8) (v : Byte) (s : State) :
    (s.writePlace m v).sp = s.sp := by cases m <;> simp [State.writePlace]
@[simp] theorem State.writePlace_pc (m : Place8) (v : Byte) (s : State) :
    (s.writePlace m v).pc = s.pc := by cases m <;> simp [State.writePlace]
@[simp] theorem State.writePlace_f (m : Place8) (v : Byte) (s : State) :
    (s.writePlace m v).f = s.f := by cases m <;> simp [State.writePlace]
@[simp] theorem State.writePlace_halted (m : Place8) (v : Byte) (s : State) :
    (s.writePlace m v).halted = s.halted := by cases m <;> simp [State.writePlace]
@[simp] theorem State.writePlace_fault (m : Place8) (v : Byte) (s : State) :
    (s.writePlace m v).fault = s.fault := by cases m <;> simp [State.writePlace]
@[simp] theorem State.writePlace_io (m : Place8) (v : Byte) (s : State) :
    (s.writePlace m v).io = s.io := by cases m <;> simp [State.writePlace]

end Sys2Proof.Machine
end

