-- ==== Sys2Proof/Laws/Ops.lean ====
section
/-! SUPPORT. One lemma per shared operation that says once everything it does. -/

namespace Sys2Proof

/-! ### Bytes and words -/

theorem wordOf_toNat (hi lo : Byte) : (wordOf hi lo).toNat = hi.toNat * 256 + lo.toNat := by
  simp only [wordOf, BitVec.toNat_append]
  rw [← Nat.shiftLeft_add_eq_or_of_lt lo.isLt, Nat.shiftLeft_eq]

theorem hi8_toNat (w : Word) : (hi8 w).toNat = w.toNat / 256 := by
  have h := w.isLt
  simp only [hi8, BitVec.extractLsb'_toNat, Nat.shiftRight_eq_div_pow]
  omega

theorem lo8_toNat (w : Word) : (lo8 w).toNat = w.toNat % 256 := by
  simp [lo8, BitVec.extractLsb'_toNat]

@[simp] theorem wordOf_hi8_lo8 (w : Word) : wordOf (hi8 w) (lo8 w) = w := by
  apply BitVec.eq_of_toNat_eq
  rw [wordOf_toNat, hi8_toNat, lo8_toNat]
  omega

@[simp] theorem hi8_wordOf (hi lo : Byte) : hi8 (wordOf hi lo) = hi := by
  apply BitVec.eq_of_toNat_eq
  have h := lo.isLt
  rw [hi8_toNat, wordOf_toNat]
  omega

@[simp] theorem lo8_wordOf (hi lo : Byte) : lo8 (wordOf hi lo) = lo := by
  apply BitVec.eq_of_toNat_eq
  have h := lo.isLt
  rw [lo8_toNat, wordOf_toNat]
  omega

end Sys2Proof

namespace Sys2Proof.Machine

/-! ### The environment -/

@[simp] theorem Environment.kindAt_default (x : Word) :
    Environment.kindAt Config.defaultEnvironment x = .ram := rfl

theorem MemKind.isMemory_of_ram {k : MemKind} (h : k = .ram) : k.isMemory = true := h ▸ rfl

/-- What is attached depends on the environment alone. -/
theorem State.kindAt_congr {s t : State} (h : t.env = s.env) (x : Word) : t.kindAt x = s.kindAt x := by
  simp only [State.kindAt, h]

@[simp] theorem State.kindAt_memRead (x y : Word) (s : State) :
    (s.memRead x).2.kindAt y = s.kindAt y := rfl

@[simp] theorem State.kindAt_memWrite (x y : Word) (v : Byte) (s : State) :
    (s.memWrite x v).kindAt y = s.kindAt y := rfl

@[simp] theorem State.kindAt_push16 (w y : Word) (s : State) :
    (s.push16 w).kindAt y = s.kindAt y := rfl

@[simp] theorem State.outside_memRead (x : Word) (s : State) : (s.memRead x).2.outside = s.outside := by
  funext a; cases a <;> rfl

@[simp] theorem State.outside_memWrite (x : Word) (v : Byte) (s : State) :
    (s.memWrite x v).outside = s.outside := by
  funext a; cases a <;> rfl

/-- What a hole or a device remembers of an access (log 13). -/
theorem State.historyAfter_spec (a : Access) (s : State) :
    s.historyAfter a = s.envHistory ++ [a].filter s.outside := by
  cases h : s.outside a <;> simp [State.historyAfter, h]

/-- Where memory answers, a byte is the byte of memory (20_memory.md R50). -/
theorem State.byteAt_of_memory {s : State} {x : Word} (h : (s.kindAt x).isMemory = true) :
    s.byteAt x = s.mem.read x := by
  simp only [State.byteAt, h]

/-- Where a hole or a device answers, a byte is a free value (log 13). -/
theorem State.byteAt_of_outside {s : State} {x : Word} (h : (s.kindAt x).isMemory = false) :
    s.byteAt x = Config.environmentByte s.envHistory x := by
  simp only [State.byteAt, h]

/-- Where memory answers, a byte depends on memory and the environment alone. -/
theorem State.byteAt_congr {s t : State} {x : Word} (he : t.env = s.env) (hm : t.mem = s.mem)
    (h : (s.kindAt x).isMemory = true) : t.byteAt x = s.byteAt x := by
  rw [State.byteAt_of_memory h, State.byteAt_of_memory (by rwa [State.kindAt_congr he]), hm]

/-! ### Memory -/

@[simp] theorem State.memRead_fst (x : Word) (s : State) : (s.memRead x).1 = s.byteAt x := rfl

/-- A read leaves every byte of memory alone (20_memory.md R50). -/
theorem State.byteAt_memRead {y : Word} {s : State} (x : Word) (h : (s.kindAt y).isMemory = true) :
    (s.memRead x).2.byteAt y = s.byteAt y :=
  State.byteAt_congr rfl rfl h

/-- A read that memory answers changes no later answer, not even of a device. -/
theorem State.byteAt_memRead_of_memory {x : Word} {s : State} (y : Word)
    (h : (s.kindAt x).isMemory = true) : (s.memRead x).2.byteAt y = s.byteAt y := by
  have ho : s.historyAfter (.memRead x (s.byteAt x)) = s.envHistory := by
    simp [State.historyAfter, State.outside, h]
  cases hy : (s.kindAt y).isMemory with
  | true => exact State.byteAt_memRead x hy
  | false =>
    have hy' : ((s.memRead x).2.kindAt y).isMemory = false := hy
    rw [State.byteAt_of_outside hy, State.byteAt_of_outside hy', State.memRead_envHistory, ho]

/-- Memory after a write, by what is attached at its address. -/
theorem State.memAfterWrite_spec (x : Word) (v : Byte) (s : State) :
    s.memAfterWrite x v = if s.kindAt x = .ram then s.mem.write x v else s.mem := by
  cases h : s.kindAt x <;> simp [State.memAfterWrite, h]

/-- A write keeps the canonical form of memory. -/
theorem State.wf_memAfterWrite (x : Word) (v : Byte) (s : State) (h : s.mem.wf = true) :
    (s.memAfterWrite x v).wf = true := by
  rw [State.memAfterWrite_spec]
  split
  · exact Memory.wf_write _ _ _ h
  · exact h

/-- Everything a byte of memory can be after a write (20_memory.md R58): RAM takes the value. -/
theorem State.byteAt_memWrite {y : Word} {s : State} (x : Word) (v : Byte)
    (h : (s.kindAt y).isMemory = true) :
    (s.memWrite x v).byteAt y = if y = x ∧ s.kindAt y = .ram then v else s.byteAt y := by
  have h' : ((s.memWrite x v).kindAt y).isMemory = true := h
  rw [State.byteAt_of_memory h, State.byteAt_of_memory h', State.memWrite_mem, State.memAfterWrite_spec]
  by_cases hx : y = x
  · subst hx
    by_cases hr : s.kindAt y = .ram <;> simp [hr]
  · by_cases hr : s.kindAt x = .ram <;> simp [hr, hx, Memory.read_write_other]

/-- The bytes read are those the reads give; the reads are logged in order, and holes and devices remember
theirs; nothing else changes. -/
theorem State.readBytes_spec (n : Nat) : ∀ (x : Word) (s : State),
    s.readBytes n x =
      (s.bytesAt n x,
        let reads := (s.bytesAt n x).mapIdx fun k v => .memRead (x + BitVec.ofNat 16 k) v
        { s with
          out := ⟨s.out.cycles, s.out.bus ++ reads⟩
          envHistory := s.envHistory ++ reads.filter s.outside }) := by
  induction n with
  | zero => intro x s; simp [State.readBytes, State.bytesAt]
  | succ n ih =>
    intro x s
    have hx : ∀ k : Nat, x + 1#16 + BitVec.ofNat 16 k = x + BitVec.ofNat 16 (k + 1) := by
      intro k
      rw [BitVec.add_assoc]
      congr 1
      apply BitVec.eq_of_toNat_eq
      simp [BitVec.toNat_add, Nat.add_comm]
    have hs : (s.memRead x).2 =
        { s with
          out := ⟨s.out.cycles, s.out.bus ++ [.memRead x (s.byteAt x)]⟩
          envHistory := s.historyAfter (.memRead x (s.byteAt x)) } := rfl
    simp only [State.readBytes, ih, State.outside_memRead, State.bytesAt, List.mapIdx_cons, hx,
      State.memRead_fst]
    refine Prod.ext rfl ?_
    simp only [hs, State.historyAfter_spec]
    simp [List.append_assoc, ← List.filter_append]

/-- The word at an address that memory answers: the byte after it is the high one (20_memory.md R52). -/
theorem State.wordAt_of_memory {x : Word} {s : State} (h : (s.kindAt x).isMemory = true) :
    s.wordAt x = wordOf (s.byteAt (x + 1#16)) (s.byteAt x) := by
  simp only [State.wordAt, State.memRead2, State.memRead_fst, State.byteAt_memRead_of_memory _ h]

/-! ### The stack -/

/-- `Pop16` gives the word at SP (20_memory.md R66). -/
@[simp] theorem State.pop16_fst (s : State) : s.pop16.1 = s.wordAt s.sp := rfl

theorem Word.sub_one_ne_sub_two (x : Word) : x - 1#16 ≠ x - 2#16 := by
  intro h
  have := congrArg (fun y : Word => y - x + 2#16) h
  revert this
  bv_omega

theorem Word.add_one_ne (x : Word) : x + 1#16 ≠ x := by bv_omega

/-- The writes a push makes (20_memory.md R65). -/
theorem State.push16_accesses (w : Word) (s : State) :
    let writes := [.memWrite (s.sp - 1#16) (hi8 w), .memWrite (s.sp - 2#16) (lo8 w)]
    (s.push16 w).out = ⟨s.out.cycles, s.out.bus ++ writes⟩ ∧
      (s.push16 w).envHistory = s.envHistory ++ writes.filter s.outside := by
  constructor
  · simp [State.push16, Outputs.log]
  · simp only [State.push16, State.memWrite_envHistory, State.historyAfter_spec, State.outside_memWrite]
    simp [List.append_assoc, ← List.filter_append]

/-- The reads a pop makes (20_memory.md R66). -/
theorem State.pop16_accesses (s : State) :
    let reads := [.memRead s.sp (s.byteAt s.sp),
      .memRead (s.sp + 1#16) ((s.memRead s.sp).2.byteAt (s.sp + 1#16))]
    s.pop16.2.out = ⟨s.out.cycles, s.out.bus ++ reads⟩ ∧
      s.pop16.2.envHistory = s.envHistory ++ reads.filter s.outside := by
  constructor
  · simp [State.pop16, State.memRead2, Outputs.log]
  · simp only [State.pop16, State.memRead2, State.memRead_envHistory, State.memRead_fst,
      State.historyAfter_spec, State.outside_memRead]
    simp [List.append_assoc, ← List.filter_append]

/-- Every byte of memory after a push (20_memory.md R65). -/
theorem State.byteAt_push16 {y : Word} {s : State} (w : Word) (h : (s.kindAt y).isMemory = true) :
    (s.push16 w).byteAt y =
      if s.kindAt y = .ram then
        if y = s.sp - 2#16 then lo8 w else if y = s.sp - 1#16 then hi8 w else s.byteAt y
      else s.byteAt y := by
  have hb : (s.push16 w).byteAt y =
      ((s.memWrite (s.sp - 1#16) (hi8 w)).memWrite (s.sp - 2#16) (lo8 w)).byteAt y := rfl
  rw [hb, State.byteAt_memWrite _ _ (by simpa using h), State.byteAt_memWrite _ _ h]
  by_cases hr : s.kindAt y = .ram <;> simp [hr]

/-- The word at the new top of the stack is the one pushed, where the stack lies in RAM (R65). -/
theorem State.wordAt_push16 {s : State} (w : Word) (h1 : s.kindAt (s.sp - 1#16) = .ram)
    (h2 : s.kindAt (s.sp - 2#16) = .ram) : (s.push16 w).wordAt (s.sp - 2#16) = w := by
  have e : s.sp - 2#16 + 1#16 = s.sp - 1#16 := by bv_omega
  have hne := Word.sub_one_ne_sub_two s.sp
  rw [State.wordAt_of_memory (by simp [h2, MemKind.isMemory]), e,
    State.byteAt_push16 _ (by simp [h1, MemKind.isMemory]),
    State.byteAt_push16 _ (by simp [h2, MemKind.isMemory])]
  simp [h1, h2, hne]

/-! ### Operands -/

/-- Sign extension keeps the signed value of a displacement (00_scope.md R11). -/
theorem sext16_toInt (d : Byte) : (sext16 d).toInt = d.toInt :=
  BitVec.toInt_signExtend_of_le (by decide)

/-- The value of a memory operand is the byte at its effective address. -/
theorem State.placeValue_of_ea {m : Place8} {x : Word} {s : State} (h : s.ea m = some x) :
    s.placeValue m = s.byteAt x := by
  cases m <;> simp [State.ea, State.placeValue] at h ⊢ <;> rw [h]

/-- Reading an operand gives its value and logs at most one read, at its effective address (R54). -/
theorem State.readPlace_spec (m : Place8) (s : State) :
    s.readPlace m =
      (s.placeValue m,
        match s.ea m with
        | some x => s.log (.memRead x (s.byteAt x))
        | none => s) := by
  cases m <;> rfl

/-- Writing an operand back stores at most one byte, at its effective address (R54). -/
theorem State.writePlace_mem (m : Place8) (v : Byte) (s : State) :
    (s.writePlace m v).mem =
      match s.ea m with
      | some x => s.memAfterWrite x v
      | none => s.mem := by
  cases m with
  | reg r => cases r <;> rfl
  | indHL => rfl
  | indIX d => rfl
  | indIY d => rfl

/-- Every byte of memory after an operand was written back: RAM at its effective address takes the value. -/
theorem State.byteAt_writePlace (m : Place8) (v : Byte) {s : State} {y : Word}
    (h : (s.kindAt y).isMemory = true) :
    (s.writePlace m v).byteAt y =
      if s.ea m = some y ∧ s.kindAt y = .ram then v else s.byteAt y := by
  cases m with
  | reg r =>
    rw [State.byteAt_congr (State.writePlace_env _ _ _) (State.writePlace_mem _ _ _) h]
    simp [State.ea]
  | indHL =>
    simpa [State.writePlace, State.ea, eq_comm] using State.byteAt_memWrite s.hl v h
  | indIX d =>
    simpa [State.writePlace, State.ea, eq_comm] using State.byteAt_memWrite (s.ix + sext16 d) v h
  | indIY d =>
    simpa [State.writePlace, State.ea, eq_comm] using State.byteAt_memWrite (s.iy + sext16 d) v h

/-- Every 8-bit register after an operand was written back. -/
theorem State.reg8_writePlace (m : Place8) (v : Byte) (s : State) (q : Reg8) :
    (s.writePlace m v).reg8 q = if m = .reg q then v else s.reg8 q := by
  cases m with
  | reg r => cases r <;> cases q <;> simp [State.writePlace, State.setReg8, State.reg8]
  | indHL => cases q <;> simp [State.writePlace, State.reg8]
  | indIX d => cases q <;> simp [State.writePlace, State.reg8]
  | indIY d => cases q <;> simp [State.writePlace, State.reg8]

/-- Reading a source operand gives its value. -/
@[simp] theorem State.readSrc_fst (src : Src8) (s : State) : (s.readSrc src).1 = s.srcValue src := by
  cases src with
  | loc m => cases m <;> rfl
  | imm n => rfl

@[simp] theorem State.readPlace_fst (m : Place8) (s : State) :
    (s.readPlace m).1 = s.placeValue m := by
  cases m <;> rfl

/-- Every pair after one was written: the six pairs share no register. -/
theorem State.pair_setPair (q q' : Pair16) (w : Word) (s : State) :
    (s.setPair q w).pair q' = if q' = q then w else s.pair q' := by
  cases q <;> cases q' <;>
    simp [State.setPair, State.pair, State.bc, State.de, State.hl]

/-- HL, IX or IY after it was written. -/
@[simp] theorem State.base_setBase (x : Base16) (w : Word) (s : State) :
    (s.setBase x w).base x = w := by
  cases x <;> simp [State.setBase, State.base, State.hl]

/-! ### The decode error and the policy guard -/

/-- Everything a guarded instruction does (log 9). -/
theorem onZ80_spec (first : Byte) (len : Nat) (effect : State → State) (s : State) :
    onZ80 first len effect s =
      .next (if s.policy = .z80 then effect s
        else s.takeDecodeError (s.pc - BitVec.ofNat 16 len) first) := by
  cases h : s.policy <;> simp [onZ80, h]

/-- Under `Z80` a guarded instruction is its effect. -/
theorem onZ80_z80 (first : Byte) (len : Nat) (effect : State → State) {s : State}
    (h : s.policy = .z80) : onZ80 first len effect s = .next (effect s) := by
  simp [onZ80_spec, h]

end Sys2Proof.Machine
end

