-- ==== Sys2Proof/Laws/PerInstr.lean ====
section
/-! SUPPORT. One lemma per constructor of `Instr`: its encoding has the length its format says
(30_encoding.md R70), and it is a `Z80`-only row exactly if its format is a prefixed one (R81). -/

namespace Sys2Proof.Laws.EncodeLength

/-- The encoding is as long as the row's format says, and the policy column fits the format. -/
def Statement (i : Instr) : Prop :=
  (encode i).length = i.length ∧ i.z80Only = i.format.prefixed

theorem incBC : Statement .incBC := ⟨rfl, rfl⟩
theorem incDE : Statement .incDE := ⟨rfl, rfl⟩
theorem incHL : Statement .incHL := ⟨rfl, rfl⟩
theorem incSP : Statement .incSP := ⟨rfl, rfl⟩
theorem decBC : Statement .decBC := ⟨rfl, rfl⟩
theorem decDE : Statement .decDE := ⟨rfl, rfl⟩
theorem decHL : Statement .decHL := ⟨rfl, rfl⟩
theorem decSP : Statement .decSP := ⟨rfl, rfl⟩
theorem incB : Statement .incB := ⟨rfl, rfl⟩
theorem incC : Statement .incC := ⟨rfl, rfl⟩
theorem incD : Statement .incD := ⟨rfl, rfl⟩
theorem incE : Statement .incE := ⟨rfl, rfl⟩
theorem incH : Statement .incH := ⟨rfl, rfl⟩
theorem incL : Statement .incL := ⟨rfl, rfl⟩
theorem incIndHL : Statement .incIndHL := ⟨rfl, rfl⟩
theorem incA : Statement .incA := ⟨rfl, rfl⟩
theorem decB : Statement .decB := ⟨rfl, rfl⟩
theorem decC : Statement .decC := ⟨rfl, rfl⟩
theorem decD : Statement .decD := ⟨rfl, rfl⟩
theorem decE : Statement .decE := ⟨rfl, rfl⟩
theorem decH : Statement .decH := ⟨rfl, rfl⟩
theorem decL : Statement .decL := ⟨rfl, rfl⟩
theorem decIndHL : Statement .decIndHL := ⟨rfl, rfl⟩
theorem decA : Statement .decA := ⟨rfl, rfl⟩
theorem rlca : Statement .rlca := ⟨rfl, rfl⟩
theorem rrca : Statement .rrca := ⟨rfl, rfl⟩
theorem rla : Statement .rla := ⟨rfl, rfl⟩
theorem rra : Statement .rra := ⟨rfl, rfl⟩
theorem addHLBC : Statement .addHLBC := ⟨rfl, rfl⟩
theorem addHLDE : Statement .addHLDE := ⟨rfl, rfl⟩
theorem addHLHL : Statement .addHLHL := ⟨rfl, rfl⟩
theorem addHLSP : Statement .addHLSP := ⟨rfl, rfl⟩
theorem daa : Statement .daa := ⟨rfl, rfl⟩
theorem halt : Statement .halt := ⟨rfl, rfl⟩
theorem addAB : Statement .addAB := ⟨rfl, rfl⟩
theorem addAC : Statement .addAC := ⟨rfl, rfl⟩
theorem addAD : Statement .addAD := ⟨rfl, rfl⟩
theorem addAE : Statement .addAE := ⟨rfl, rfl⟩
theorem addAH : Statement .addAH := ⟨rfl, rfl⟩
theorem addAL : Statement .addAL := ⟨rfl, rfl⟩
theorem addAIndHL : Statement .addAIndHL := ⟨rfl, rfl⟩
theorem addAA : Statement .addAA := ⟨rfl, rfl⟩
theorem adcAB : Statement .adcAB := ⟨rfl, rfl⟩
theorem adcAC : Statement .adcAC := ⟨rfl, rfl⟩
theorem adcAD : Statement .adcAD := ⟨rfl, rfl⟩
theorem adcAE : Statement .adcAE := ⟨rfl, rfl⟩
theorem adcAH : Statement .adcAH := ⟨rfl, rfl⟩
theorem adcAL : Statement .adcAL := ⟨rfl, rfl⟩
theorem adcAIndHL : Statement .adcAIndHL := ⟨rfl, rfl⟩
theorem adcAA : Statement .adcAA := ⟨rfl, rfl⟩
theorem subB : Statement .subB := ⟨rfl, rfl⟩
theorem subC : Statement .subC := ⟨rfl, rfl⟩
theorem subD : Statement .subD := ⟨rfl, rfl⟩
theorem subE : Statement .subE := ⟨rfl, rfl⟩
theorem subH : Statement .subH := ⟨rfl, rfl⟩
theorem subL : Statement .subL := ⟨rfl, rfl⟩
theorem subIndHL : Statement .subIndHL := ⟨rfl, rfl⟩
theorem subA : Statement .subA := ⟨rfl, rfl⟩
theorem sbcAB : Statement .sbcAB := ⟨rfl, rfl⟩
theorem sbcAC : Statement .sbcAC := ⟨rfl, rfl⟩
theorem sbcAD : Statement .sbcAD := ⟨rfl, rfl⟩
theorem sbcAE : Statement .sbcAE := ⟨rfl, rfl⟩
theorem sbcAH : Statement .sbcAH := ⟨rfl, rfl⟩
theorem sbcAL : Statement .sbcAL := ⟨rfl, rfl⟩
theorem sbcAIndHL : Statement .sbcAIndHL := ⟨rfl, rfl⟩
theorem sbcAA : Statement .sbcAA := ⟨rfl, rfl⟩
theorem andB : Statement .andB := ⟨rfl, rfl⟩
theorem andC : Statement .andC := ⟨rfl, rfl⟩
theorem andD : Statement .andD := ⟨rfl, rfl⟩
theorem andE : Statement .andE := ⟨rfl, rfl⟩
theorem andH : Statement .andH := ⟨rfl, rfl⟩
theorem andL : Statement .andL := ⟨rfl, rfl⟩
theorem andIndHL : Statement .andIndHL := ⟨rfl, rfl⟩
theorem andA : Statement .andA := ⟨rfl, rfl⟩
theorem xorB : Statement .xorB := ⟨rfl, rfl⟩
theorem xorC : Statement .xorC := ⟨rfl, rfl⟩
theorem xorD : Statement .xorD := ⟨rfl, rfl⟩
theorem xorE : Statement .xorE := ⟨rfl, rfl⟩
theorem xorH : Statement .xorH := ⟨rfl, rfl⟩
theorem xorL : Statement .xorL := ⟨rfl, rfl⟩
theorem xorIndHL : Statement .xorIndHL := ⟨rfl, rfl⟩
theorem xorA : Statement .xorA := ⟨rfl, rfl⟩
theorem orB : Statement .orB := ⟨rfl, rfl⟩
theorem orC : Statement .orC := ⟨rfl, rfl⟩
theorem orD : Statement .orD := ⟨rfl, rfl⟩
theorem orE : Statement .orE := ⟨rfl, rfl⟩
theorem orH : Statement .orH := ⟨rfl, rfl⟩
theorem orL : Statement .orL := ⟨rfl, rfl⟩
theorem orIndHL : Statement .orIndHL := ⟨rfl, rfl⟩
theorem orA : Statement .orA := ⟨rfl, rfl⟩
theorem cpB : Statement .cpB := ⟨rfl, rfl⟩
theorem cpC : Statement .cpC := ⟨rfl, rfl⟩
theorem cpD : Statement .cpD := ⟨rfl, rfl⟩
theorem cpE : Statement .cpE := ⟨rfl, rfl⟩
theorem cpH : Statement .cpH := ⟨rfl, rfl⟩
theorem cpL : Statement .cpL := ⟨rfl, rfl⟩
theorem cpIndHL : Statement .cpIndHL := ⟨rfl, rfl⟩
theorem cpA : Statement .cpA := ⟨rfl, rfl⟩
theorem addAImm (n : Byte) : Statement (.addAImm n) := ⟨rfl, rfl⟩
theorem adcAImm (n : Byte) : Statement (.adcAImm n) := ⟨rfl, rfl⟩
theorem subImm (n : Byte) : Statement (.subImm n) := ⟨rfl, rfl⟩
theorem sbcAImm (n : Byte) : Statement (.sbcAImm n) := ⟨rfl, rfl⟩
theorem andImm (n : Byte) : Statement (.andImm n) := ⟨rfl, rfl⟩
theorem xorImm (n : Byte) : Statement (.xorImm n) := ⟨rfl, rfl⟩
theorem orImm (n : Byte) : Statement (.orImm n) := ⟨rfl, rfl⟩
theorem cpImm (n : Byte) : Statement (.cpImm n) := ⟨rfl, rfl⟩
theorem retNZ : Statement .retNZ := ⟨rfl, rfl⟩
theorem retZ : Statement .retZ := ⟨rfl, rfl⟩
theorem retNC : Statement .retNC := ⟨rfl, rfl⟩
theorem retC : Statement .retC := ⟨rfl, rfl⟩
theorem retPO : Statement .retPO := ⟨rfl, rfl⟩
theorem retPE : Statement .retPE := ⟨rfl, rfl⟩
theorem retP : Statement .retP := ⟨rfl, rfl⟩
theorem retM : Statement .retM := ⟨rfl, rfl⟩
theorem ret : Statement .ret := ⟨rfl, rfl⟩
theorem jpNZ (nn : Word) : Statement (.jpNZ nn) := ⟨rfl, rfl⟩
theorem jpZ (nn : Word) : Statement (.jpZ nn) := ⟨rfl, rfl⟩
theorem jpNC (nn : Word) : Statement (.jpNC nn) := ⟨rfl, rfl⟩
theorem jpC (nn : Word) : Statement (.jpC nn) := ⟨rfl, rfl⟩
theorem jpPO (nn : Word) : Statement (.jpPO nn) := ⟨rfl, rfl⟩
theorem jpPE (nn : Word) : Statement (.jpPE nn) := ⟨rfl, rfl⟩
theorem jpP (nn : Word) : Statement (.jpP nn) := ⟨rfl, rfl⟩
theorem jpM (nn : Word) : Statement (.jpM nn) := ⟨rfl, rfl⟩
theorem jp (nn : Word) : Statement (.jp nn) := ⟨rfl, rfl⟩
theorem callNZ (nn : Word) : Statement (.callNZ nn) := ⟨rfl, rfl⟩
theorem callZ (nn : Word) : Statement (.callZ nn) := ⟨rfl, rfl⟩
theorem callNC (nn : Word) : Statement (.callNC nn) := ⟨rfl, rfl⟩
theorem callC (nn : Word) : Statement (.callC nn) := ⟨rfl, rfl⟩
theorem callPO (nn : Word) : Statement (.callPO nn) := ⟨rfl, rfl⟩
theorem callPE (nn : Word) : Statement (.callPE nn) := ⟨rfl, rfl⟩
theorem callP (nn : Word) : Statement (.callP nn) := ⟨rfl, rfl⟩
theorem callM (nn : Word) : Statement (.callM nn) := ⟨rfl, rfl⟩
theorem call (nn : Word) : Statement (.call nn) := ⟨rfl, rfl⟩
theorem rst00 : Statement .rst00 := ⟨rfl, rfl⟩
theorem rst08 : Statement .rst08 := ⟨rfl, rfl⟩
theorem rst10 : Statement .rst10 := ⟨rfl, rfl⟩
theorem rst18 : Statement .rst18 := ⟨rfl, rfl⟩
theorem rst20 : Statement .rst20 := ⟨rfl, rfl⟩
theorem rst28 : Statement .rst28 := ⟨rfl, rfl⟩
theorem rst30 : Statement .rst30 := ⟨rfl, rfl⟩
theorem rst38 : Statement .rst38 := ⟨rfl, rfl⟩
theorem popBC : Statement .popBC := ⟨rfl, rfl⟩
theorem popDE : Statement .popDE := ⟨rfl, rfl⟩
theorem popHL : Statement .popHL := ⟨rfl, rfl⟩
theorem popAF : Statement .popAF := ⟨rfl, rfl⟩
theorem pushBC : Statement .pushBC := ⟨rfl, rfl⟩
theorem pushDE : Statement .pushDE := ⟨rfl, rfl⟩
theorem pushHL : Statement .pushHL := ⟨rfl, rfl⟩
theorem pushAF : Statement .pushAF := ⟨rfl, rfl⟩
theorem exSPHL : Statement .exSPHL := ⟨rfl, rfl⟩
theorem rlcB : Statement .rlcB := ⟨rfl, rfl⟩
theorem rlcC : Statement .rlcC := ⟨rfl, rfl⟩
theorem rlcD : Statement .rlcD := ⟨rfl, rfl⟩
theorem rlcE : Statement .rlcE := ⟨rfl, rfl⟩
theorem rlcH : Statement .rlcH := ⟨rfl, rfl⟩
theorem rlcL : Statement .rlcL := ⟨rfl, rfl⟩
theorem rlcIndHL : Statement .rlcIndHL := ⟨rfl, rfl⟩
theorem rlcA : Statement .rlcA := ⟨rfl, rfl⟩
theorem rrcB : Statement .rrcB := ⟨rfl, rfl⟩
theorem rrcC : Statement .rrcC := ⟨rfl, rfl⟩
theorem rrcD : Statement .rrcD := ⟨rfl, rfl⟩
theorem rrcE : Statement .rrcE := ⟨rfl, rfl⟩
theorem rrcH : Statement .rrcH := ⟨rfl, rfl⟩
theorem rrcL : Statement .rrcL := ⟨rfl, rfl⟩
theorem rrcIndHL : Statement .rrcIndHL := ⟨rfl, rfl⟩
theorem rrcA : Statement .rrcA := ⟨rfl, rfl⟩
theorem rlB : Statement .rlB := ⟨rfl, rfl⟩
theorem rlC : Statement .rlC := ⟨rfl, rfl⟩
theorem rlD : Statement .rlD := ⟨rfl, rfl⟩
theorem rlE : Statement .rlE := ⟨rfl, rfl⟩
theorem rlH : Statement .rlH := ⟨rfl, rfl⟩
theorem rlL : Statement .rlL := ⟨rfl, rfl⟩
theorem rlIndHL : Statement .rlIndHL := ⟨rfl, rfl⟩
theorem rlA : Statement .rlA := ⟨rfl, rfl⟩
theorem rrB : Statement .rrB := ⟨rfl, rfl⟩
theorem rrC : Statement .rrC := ⟨rfl, rfl⟩
theorem rrD : Statement .rrD := ⟨rfl, rfl⟩
theorem rrE : Statement .rrE := ⟨rfl, rfl⟩
theorem rrH : Statement .rrH := ⟨rfl, rfl⟩
theorem rrL : Statement .rrL := ⟨rfl, rfl⟩
theorem rrIndHL : Statement .rrIndHL := ⟨rfl, rfl⟩
theorem rrA : Statement .rrA := ⟨rfl, rfl⟩
theorem slaB : Statement .slaB := ⟨rfl, rfl⟩
theorem slaC : Statement .slaC := ⟨rfl, rfl⟩
theorem slaD : Statement .slaD := ⟨rfl, rfl⟩
theorem slaE : Statement .slaE := ⟨rfl, rfl⟩
theorem slaH : Statement .slaH := ⟨rfl, rfl⟩
theorem slaL : Statement .slaL := ⟨rfl, rfl⟩
theorem slaIndHL : Statement .slaIndHL := ⟨rfl, rfl⟩
theorem slaA : Statement .slaA := ⟨rfl, rfl⟩
theorem sraB : Statement .sraB := ⟨rfl, rfl⟩
theorem sraC : Statement .sraC := ⟨rfl, rfl⟩
theorem sraD : Statement .sraD := ⟨rfl, rfl⟩
theorem sraE : Statement .sraE := ⟨rfl, rfl⟩
theorem sraH : Statement .sraH := ⟨rfl, rfl⟩
theorem sraL : Statement .sraL := ⟨rfl, rfl⟩
theorem sraIndHL : Statement .sraIndHL := ⟨rfl, rfl⟩
theorem sraA : Statement .sraA := ⟨rfl, rfl⟩
theorem sllB : Statement .sllB := ⟨rfl, rfl⟩
theorem sllC : Statement .sllC := ⟨rfl, rfl⟩
theorem sllD : Statement .sllD := ⟨rfl, rfl⟩
theorem sllE : Statement .sllE := ⟨rfl, rfl⟩
theorem sllH : Statement .sllH := ⟨rfl, rfl⟩
theorem sllL : Statement .sllL := ⟨rfl, rfl⟩
theorem sllIndHL : Statement .sllIndHL := ⟨rfl, rfl⟩
theorem sllA : Statement .sllA := ⟨rfl, rfl⟩
theorem srlB : Statement .srlB := ⟨rfl, rfl⟩
theorem srlC : Statement .srlC := ⟨rfl, rfl⟩
theorem srlD : Statement .srlD := ⟨rfl, rfl⟩
theorem srlE : Statement .srlE := ⟨rfl, rfl⟩
theorem srlH : Statement .srlH := ⟨rfl, rfl⟩
theorem srlL : Statement .srlL := ⟨rfl, rfl⟩
theorem srlIndHL : Statement .srlIndHL := ⟨rfl, rfl⟩
theorem srlA : Statement .srlA := ⟨rfl, rfl⟩
theorem sbcHLBC : Statement .sbcHLBC := ⟨rfl, rfl⟩
theorem sbcHLDE : Statement .sbcHLDE := ⟨rfl, rfl⟩
theorem sbcHLHL : Statement .sbcHLHL := ⟨rfl, rfl⟩
theorem sbcHLSP : Statement .sbcHLSP := ⟨rfl, rfl⟩
theorem adcHLBC : Statement .adcHLBC := ⟨rfl, rfl⟩
theorem adcHLDE : Statement .adcHLDE := ⟨rfl, rfl⟩
theorem adcHLHL : Statement .adcHLHL := ⟨rfl, rfl⟩
theorem adcHLSP : Statement .adcHLSP := ⟨rfl, rfl⟩
theorem addIXBC : Statement .addIXBC := ⟨rfl, rfl⟩
theorem addIXDE : Statement .addIXDE := ⟨rfl, rfl⟩
theorem addIXIX : Statement .addIXIX := ⟨rfl, rfl⟩
theorem addIXSP : Statement .addIXSP := ⟨rfl, rfl⟩
theorem addIYBC : Statement .addIYBC := ⟨rfl, rfl⟩
theorem addIYDE : Statement .addIYDE := ⟨rfl, rfl⟩
theorem addIYIY : Statement .addIYIY := ⟨rfl, rfl⟩
theorem addIYSP : Statement .addIYSP := ⟨rfl, rfl⟩
theorem incIX : Statement .incIX := ⟨rfl, rfl⟩
theorem decIX : Statement .decIX := ⟨rfl, rfl⟩
theorem incIY : Statement .incIY := ⟨rfl, rfl⟩
theorem decIY : Statement .decIY := ⟨rfl, rfl⟩
theorem incIndIX (d : Byte) : Statement (.incIndIX d) := ⟨rfl, rfl⟩
theorem decIndIX (d : Byte) : Statement (.decIndIX d) := ⟨rfl, rfl⟩
theorem incIndIY (d : Byte) : Statement (.incIndIY d) := ⟨rfl, rfl⟩
theorem decIndIY (d : Byte) : Statement (.decIndIY d) := ⟨rfl, rfl⟩
theorem addAIndIX (d : Byte) : Statement (.addAIndIX d) := ⟨rfl, rfl⟩
theorem adcAIndIX (d : Byte) : Statement (.adcAIndIX d) := ⟨rfl, rfl⟩
theorem subIndIX (d : Byte) : Statement (.subIndIX d) := ⟨rfl, rfl⟩
theorem sbcAIndIX (d : Byte) : Statement (.sbcAIndIX d) := ⟨rfl, rfl⟩
theorem andIndIX (d : Byte) : Statement (.andIndIX d) := ⟨rfl, rfl⟩
theorem xorIndIX (d : Byte) : Statement (.xorIndIX d) := ⟨rfl, rfl⟩
theorem orIndIX (d : Byte) : Statement (.orIndIX d) := ⟨rfl, rfl⟩
theorem cpIndIX (d : Byte) : Statement (.cpIndIX d) := ⟨rfl, rfl⟩
theorem addAIndIY (d : Byte) : Statement (.addAIndIY d) := ⟨rfl, rfl⟩
theorem adcAIndIY (d : Byte) : Statement (.adcAIndIY d) := ⟨rfl, rfl⟩
theorem subIndIY (d : Byte) : Statement (.subIndIY d) := ⟨rfl, rfl⟩
theorem sbcAIndIY (d : Byte) : Statement (.sbcAIndIY d) := ⟨rfl, rfl⟩
theorem andIndIY (d : Byte) : Statement (.andIndIY d) := ⟨rfl, rfl⟩
theorem xorIndIY (d : Byte) : Statement (.xorIndIY d) := ⟨rfl, rfl⟩
theorem orIndIY (d : Byte) : Statement (.orIndIY d) := ⟨rfl, rfl⟩
theorem cpIndIY (d : Byte) : Statement (.cpIndIY d) := ⟨rfl, rfl⟩
theorem popIX : Statement .popIX := ⟨rfl, rfl⟩
theorem pushIX : Statement .pushIX := ⟨rfl, rfl⟩
theorem popIY : Statement .popIY := ⟨rfl, rfl⟩
theorem pushIY : Statement .pushIY := ⟨rfl, rfl⟩
theorem exSPIX : Statement .exSPIX := ⟨rfl, rfl⟩
theorem exSPIY : Statement .exSPIY := ⟨rfl, rfl⟩
theorem rlcIndIX (d : Byte) : Statement (.rlcIndIX d) := ⟨rfl, rfl⟩
theorem rrcIndIX (d : Byte) : Statement (.rrcIndIX d) := ⟨rfl, rfl⟩
theorem rlIndIX (d : Byte) : Statement (.rlIndIX d) := ⟨rfl, rfl⟩
theorem rrIndIX (d : Byte) : Statement (.rrIndIX d) := ⟨rfl, rfl⟩
theorem slaIndIX (d : Byte) : Statement (.slaIndIX d) := ⟨rfl, rfl⟩
theorem sraIndIX (d : Byte) : Statement (.sraIndIX d) := ⟨rfl, rfl⟩
theorem sllIndIX (d : Byte) : Statement (.sllIndIX d) := ⟨rfl, rfl⟩
theorem srlIndIX (d : Byte) : Statement (.srlIndIX d) := ⟨rfl, rfl⟩
theorem rlcIndIY (d : Byte) : Statement (.rlcIndIY d) := ⟨rfl, rfl⟩
theorem rrcIndIY (d : Byte) : Statement (.rrcIndIY d) := ⟨rfl, rfl⟩
theorem rlIndIY (d : Byte) : Statement (.rlIndIY d) := ⟨rfl, rfl⟩
theorem rrIndIY (d : Byte) : Statement (.rrIndIY d) := ⟨rfl, rfl⟩
theorem slaIndIY (d : Byte) : Statement (.slaIndIY d) := ⟨rfl, rfl⟩
theorem sraIndIY (d : Byte) : Statement (.sraIndIY d) := ⟨rfl, rfl⟩
theorem sllIndIY (d : Byte) : Statement (.sllIndIY d) := ⟨rfl, rfl⟩
theorem srlIndIY (d : Byte) : Statement (.srlIndIY d) := ⟨rfl, rfl⟩

end Sys2Proof.Laws.EncodeLength
end

