-- ==== Sys2Proof/Tests/Slice0.lean ====
section
/-! SUPPORT. The model's own tests: ill-formed terms that WellFormed refuses, the words of 30_encoding.md R71
and R80 for every constructor, one-step examples whose expected results are the spec's (the rule is named at
each), and a witness for every statement that has hypotheses. -/

namespace Sys2Proof.Tests

open Sys2Proof.Machine Sys2Proof.Claims

/-! ### Helpers -/

/-- A launch state: PC = 0, SP = 2000, HL = 4000, `code` at 0, everything else as after reset. -/
def launch (p : Policy) (code : List Byte) : State :=
  { State.reset with policy := p, sp := 0x2000, h := 0x40, mem := Memory.load [] 0x0000 code }

/-- A flag set read from a byte in the layout of `Z80`. -/
def flags (b : Byte) : Flags := State.reset.f.ofByte .z80 b

/-- A question asked of the next state; false if there is none. -/
def ok (r : Result) (q : State → Bool) : Bool :=
  match r with
  | .next t => q t
  | _ => false

/-- A and the packed flag byte. -/
def af (t : State) : Byte × Byte := (t.a, t.f.toByte t.policy)

/-- The word decodes to the constructor under `Z80`, with no byte left. -/
def decodesTo (x : List Byte × Instr) : Bool :=
  match decode .z80 x.1 with
  | .ok (i, []) => decide (i = x.2)
  | _ => false

/-- An environment with ROM at 1000, a hole at 1001, and devices at 1002 and from FFFE over the wrap to 0000;
the first region that holds an address counts. -/
def someEnvironment : Environment :=
  [⟨0x1000, 1, .rom⟩, ⟨0x1001, 1, .hole⟩, ⟨0x1000, 3, .device⟩, ⟨0xFFFE, 3, .device⟩]

/-- What `someEnvironment` attaches at each address. -/
def mixed (xs : List Word) : List MemKind := xs.map (Environment.kindAt someEnvironment)

/-- `launch` with that environment. -/
def attach (p : Policy) (code : List Byte) : State := { launch p code with env := someEnvironment }

/-! ### WellFormed: an ill-formed term for each check -/

theorem test_wf_refuses_cb : Instr.wf .i8080 .rlcB = false := by decide
theorem test_wf_refuses_ed : Instr.wf .i8080 .adcHLBC = false := by decide
theorem test_wf_refuses_dd : Instr.wf .i8080 .addIXBC = false := by decide
theorem test_wf_refuses_fd_d : Instr.wf .i8080 (.incIndIY 0x01) = false := by decide
theorem test_wf_refuses_ddcb : Instr.wf .i8080 (.rlcIndIX 0x01) = false := by decide
theorem test_wf_refuses_indexed_place : Place8.wf .i8080 (.indIX 0x01) = false := by decide
theorem test_wf_refuses_indexed_source : Src8.wf .i8080 (.loc (.indIY 0x01)) = false := by decide
theorem test_wf_refuses_index_pair : Pair16.wf .i8080 .ix = false := by decide
theorem test_wf_refuses_index_stack : StackReg.wf .i8080 .iy = false := by decide
theorem test_wf_refuses_index_base : Base16.wf .i8080 .ix = false := by decide

/-! ### Decode: every row, its opcode bytes written out field by field (R71) -/

theorem test_decode_alu_low :
    ([
      ([0b10_000_000], .addAB), ([0b10_000_001], .addAC), ([0b10_000_010], .addAD),
      ([0b10_000_011], .addAE), ([0b10_000_100], .addAH), ([0b10_000_101], .addAL),
      ([0b10_000_111], .addAA), ([0b10_000_110], .addAIndHL),
      ([0b11_000_110, 0x2A], .addAImm 0x2A), ([0xDD, 0b10_000_110, 0xFE], .addAIndIX 0xFE),
      ([0xFD, 0b10_000_110, 0x7F], .addAIndIY 0x7F), ([0b10_001_000], .adcAB),
      ([0b10_001_001], .adcAC), ([0b10_001_010], .adcAD), ([0b10_001_011], .adcAE),
      ([0b10_001_100], .adcAH), ([0b10_001_101], .adcAL), ([0b10_001_111], .adcAA),
      ([0b10_001_110], .adcAIndHL), ([0b11_001_110, 0x2A], .adcAImm 0x2A),
      ([0xDD, 0b10_001_110, 0xFE], .adcAIndIX 0xFE), ([0xFD, 0b10_001_110, 0x7F], .adcAIndIY 0x7F),
      ([0b10_010_000], .subB), ([0b10_010_001], .subC), ([0b10_010_010], .subD),
      ([0b10_010_011], .subE), ([0b10_010_100], .subH), ([0b10_010_101], .subL),
      ([0b10_010_111], .subA), ([0b10_010_110], .subIndHL), ([0b11_010_110, 0x2A], .subImm 0x2A),
      ([0xDD, 0b10_010_110, 0xFE], .subIndIX 0xFE), ([0xFD, 0b10_010_110, 0x7F], .subIndIY 0x7F),
      ([0b10_011_000], .sbcAB), ([0b10_011_001], .sbcAC), ([0b10_011_010], .sbcAD),
      ([0b10_011_011], .sbcAE), ([0b10_011_100], .sbcAH), ([0b10_011_101], .sbcAL),
      ([0b10_011_111], .sbcAA), ([0b10_011_110], .sbcAIndHL),
      ([0b11_011_110, 0x2A], .sbcAImm 0x2A), ([0xDD, 0b10_011_110, 0xFE], .sbcAIndIX 0xFE),
      ([0xFD, 0b10_011_110, 0x7F], .sbcAIndIY 0x7F)
      ] : List (List Byte × Instr)).all decodesTo = true := by decide

theorem test_decode_alu_high :
    ([
      ([0b10_100_000], .andB), ([0b10_100_001], .andC), ([0b10_100_010], .andD),
      ([0b10_100_011], .andE), ([0b10_100_100], .andH), ([0b10_100_101], .andL),
      ([0b10_100_111], .andA), ([0b10_100_110], .andIndHL), ([0b11_100_110, 0x2A], .andImm 0x2A),
      ([0xDD, 0b10_100_110, 0xFE], .andIndIX 0xFE), ([0xFD, 0b10_100_110, 0x7F], .andIndIY 0x7F),
      ([0b10_101_000], .xorB), ([0b10_101_001], .xorC), ([0b10_101_010], .xorD),
      ([0b10_101_011], .xorE), ([0b10_101_100], .xorH), ([0b10_101_101], .xorL),
      ([0b10_101_111], .xorA), ([0b10_101_110], .xorIndHL), ([0b11_101_110, 0x2A], .xorImm 0x2A),
      ([0xDD, 0b10_101_110, 0xFE], .xorIndIX 0xFE), ([0xFD, 0b10_101_110, 0x7F], .xorIndIY 0x7F),
      ([0b10_110_000], .orB), ([0b10_110_001], .orC), ([0b10_110_010], .orD),
      ([0b10_110_011], .orE), ([0b10_110_100], .orH), ([0b10_110_101], .orL),
      ([0b10_110_111], .orA), ([0b10_110_110], .orIndHL), ([0b11_110_110, 0x2A], .orImm 0x2A),
      ([0xDD, 0b10_110_110, 0xFE], .orIndIX 0xFE), ([0xFD, 0b10_110_110, 0x7F], .orIndIY 0x7F),
      ([0b10_111_000], .cpB), ([0b10_111_001], .cpC), ([0b10_111_010], .cpD),
      ([0b10_111_011], .cpE), ([0b10_111_100], .cpH), ([0b10_111_101], .cpL),
      ([0b10_111_111], .cpA), ([0b10_111_110], .cpIndHL), ([0b11_111_110, 0x2A], .cpImm 0x2A),
      ([0xDD, 0b10_111_110, 0xFE], .cpIndIX 0xFE), ([0xFD, 0b10_111_110, 0x7F], .cpIndIY 0x7F)
      ] : List (List Byte × Instr)).all decodesTo = true := by decide

theorem test_decode_inc_dec :
    ([
      ([0b00_000_100], .incB), ([0b00_001_100], .incC), ([0b00_010_100], .incD),
      ([0b00_011_100], .incE), ([0b00_100_100], .incH), ([0b00_101_100], .incL),
      ([0b00_111_100], .incA), ([0b00_110_100], .incIndHL),
      ([0xDD, 0b00_110_100, 0x80], .incIndIX 0x80), ([0xFD, 0b00_110_100, 0x01], .incIndIY 0x01),
      ([0b00_00_0_011], .incBC), ([0b00_01_0_011], .incDE), ([0b00_10_0_011], .incHL),
      ([0b00_11_0_011], .incSP), ([0xDD, 0b00_10_0_011], .incIX), ([0xFD, 0b00_10_0_011], .incIY),
      ([0b00_000_101], .decB), ([0b00_001_101], .decC), ([0b00_010_101], .decD),
      ([0b00_011_101], .decE), ([0b00_100_101], .decH), ([0b00_101_101], .decL),
      ([0b00_111_101], .decA), ([0b00_110_101], .decIndHL),
      ([0xDD, 0b00_110_101, 0x80], .decIndIX 0x80), ([0xFD, 0b00_110_101, 0x01], .decIndIY 0x01),
      ([0b00_00_1_011], .decBC), ([0b00_01_1_011], .decDE), ([0b00_10_1_011], .decHL),
      ([0b00_11_1_011], .decSP), ([0xDD, 0b00_10_1_011], .decIX), ([0xFD, 0b00_10_1_011], .decIY)
      ] : List (List Byte × Instr)).all decodesTo = true := by decide

theorem test_decode_rotate :
    ([
      ([0b00_000_111], .rlca), ([0b00_001_111], .rrca), ([0b00_010_111], .rla),
      ([0b00_011_111], .rra), ([0xCB, 0b00_000_000], .rlcB), ([0xCB, 0b00_000_001], .rlcC),
      ([0xCB, 0b00_000_010], .rlcD), ([0xCB, 0b00_000_011], .rlcE), ([0xCB, 0b00_000_100], .rlcH),
      ([0xCB, 0b00_000_101], .rlcL), ([0xCB, 0b00_000_111], .rlcA),
      ([0xCB, 0b00_000_110], .rlcIndHL), ([0xDD, 0xCB, 0xFF, 0b00_000_110], .rlcIndIX 0xFF),
      ([0xFD, 0xCB, 0x05, 0b00_000_110], .rlcIndIY 0x05), ([0xCB, 0b00_001_000], .rrcB),
      ([0xCB, 0b00_001_001], .rrcC), ([0xCB, 0b00_001_010], .rrcD), ([0xCB, 0b00_001_011], .rrcE),
      ([0xCB, 0b00_001_100], .rrcH), ([0xCB, 0b00_001_101], .rrcL), ([0xCB, 0b00_001_111], .rrcA),
      ([0xCB, 0b00_001_110], .rrcIndHL), ([0xDD, 0xCB, 0xFF, 0b00_001_110], .rrcIndIX 0xFF),
      ([0xFD, 0xCB, 0x05, 0b00_001_110], .rrcIndIY 0x05), ([0xCB, 0b00_010_000], .rlB),
      ([0xCB, 0b00_010_001], .rlC), ([0xCB, 0b00_010_010], .rlD), ([0xCB, 0b00_010_011], .rlE),
      ([0xCB, 0b00_010_100], .rlH), ([0xCB, 0b00_010_101], .rlL), ([0xCB, 0b00_010_111], .rlA),
      ([0xCB, 0b00_010_110], .rlIndHL), ([0xDD, 0xCB, 0xFF, 0b00_010_110], .rlIndIX 0xFF),
      ([0xFD, 0xCB, 0x05, 0b00_010_110], .rlIndIY 0x05), ([0xCB, 0b00_011_000], .rrB),
      ([0xCB, 0b00_011_001], .rrC), ([0xCB, 0b00_011_010], .rrD), ([0xCB, 0b00_011_011], .rrE),
      ([0xCB, 0b00_011_100], .rrH), ([0xCB, 0b00_011_101], .rrL), ([0xCB, 0b00_011_111], .rrA),
      ([0xCB, 0b00_011_110], .rrIndHL), ([0xDD, 0xCB, 0xFF, 0b00_011_110], .rrIndIX 0xFF),
      ([0xFD, 0xCB, 0x05, 0b00_011_110], .rrIndIY 0x05)
      ] : List (List Byte × Instr)).all decodesTo = true := by decide

theorem test_decode_shift :
    ([
      ([0xCB, 0b00_100_000], .slaB), ([0xCB, 0b00_100_001], .slaC), ([0xCB, 0b00_100_010], .slaD),
      ([0xCB, 0b00_100_011], .slaE), ([0xCB, 0b00_100_100], .slaH), ([0xCB, 0b00_100_101], .slaL),
      ([0xCB, 0b00_100_111], .slaA), ([0xCB, 0b00_100_110], .slaIndHL),
      ([0xDD, 0xCB, 0xFF, 0b00_100_110], .slaIndIX 0xFF),
      ([0xFD, 0xCB, 0x05, 0b00_100_110], .slaIndIY 0x05), ([0xCB, 0b00_101_000], .sraB),
      ([0xCB, 0b00_101_001], .sraC), ([0xCB, 0b00_101_010], .sraD), ([0xCB, 0b00_101_011], .sraE),
      ([0xCB, 0b00_101_100], .sraH), ([0xCB, 0b00_101_101], .sraL), ([0xCB, 0b00_101_111], .sraA),
      ([0xCB, 0b00_101_110], .sraIndHL), ([0xDD, 0xCB, 0xFF, 0b00_101_110], .sraIndIX 0xFF),
      ([0xFD, 0xCB, 0x05, 0b00_101_110], .sraIndIY 0x05), ([0xCB, 0b00_110_000], .sllB),
      ([0xCB, 0b00_110_001], .sllC), ([0xCB, 0b00_110_010], .sllD), ([0xCB, 0b00_110_011], .sllE),
      ([0xCB, 0b00_110_100], .sllH), ([0xCB, 0b00_110_101], .sllL), ([0xCB, 0b00_110_111], .sllA),
      ([0xCB, 0b00_110_110], .sllIndHL), ([0xDD, 0xCB, 0xFF, 0b00_110_110], .sllIndIX 0xFF),
      ([0xFD, 0xCB, 0x05, 0b00_110_110], .sllIndIY 0x05), ([0xCB, 0b00_111_000], .srlB),
      ([0xCB, 0b00_111_001], .srlC), ([0xCB, 0b00_111_010], .srlD), ([0xCB, 0b00_111_011], .srlE),
      ([0xCB, 0b00_111_100], .srlH), ([0xCB, 0b00_111_101], .srlL), ([0xCB, 0b00_111_111], .srlA),
      ([0xCB, 0b00_111_110], .srlIndHL), ([0xDD, 0xCB, 0xFF, 0b00_111_110], .srlIndIX 0xFF),
      ([0xFD, 0xCB, 0x05, 0b00_111_110], .srlIndIY 0x05)
      ] : List (List Byte × Instr)).all decodesTo = true := by decide

theorem test_decode_arith16_daa_halt :
    ([
      ([0b00_00_1_001], .addHLBC), ([0xED, 0b01_00_1_010], .adcHLBC),
      ([0xED, 0b01_00_0_010], .sbcHLBC), ([0xDD, 0b00_00_1_001], .addIXBC),
      ([0xFD, 0b00_00_1_001], .addIYBC), ([0b00_01_1_001], .addHLDE),
      ([0xED, 0b01_01_1_010], .adcHLDE), ([0xED, 0b01_01_0_010], .sbcHLDE),
      ([0xDD, 0b00_01_1_001], .addIXDE), ([0xFD, 0b00_01_1_001], .addIYDE),
      ([0b00_10_1_001], .addHLHL), ([0xED, 0b01_10_1_010], .adcHLHL),
      ([0xED, 0b01_10_0_010], .sbcHLHL), ([0xDD, 0b00_10_1_001], .addIXIX),
      ([0xFD, 0b00_10_1_001], .addIYIY), ([0b00_11_1_001], .addHLSP),
      ([0xED, 0b01_11_1_010], .adcHLSP), ([0xED, 0b01_11_0_010], .sbcHLSP),
      ([0xDD, 0b00_11_1_001], .addIXSP), ([0xFD, 0b00_11_1_001], .addIYSP), ([0b00_100_111], .daa),
      ([0b01_110_110], .halt)
      ] : List (List Byte × Instr)).all decodesTo = true := by decide

theorem test_decode_control :
    ([
      ([0b11_000_010, 0x34, 0x12], .jpNZ 0x1234), ([0b11_000_100, 0x34, 0x12], .callNZ 0x1234),
      ([0b11_000_000], .retNZ), ([0b11_000_111], .rst00),
      ([0b11_001_010, 0x34, 0x12], .jpZ 0x1234), ([0b11_001_100, 0x34, 0x12], .callZ 0x1234),
      ([0b11_001_000], .retZ), ([0b11_001_111], .rst08),
      ([0b11_010_010, 0x34, 0x12], .jpNC 0x1234), ([0b11_010_100, 0x34, 0x12], .callNC 0x1234),
      ([0b11_010_000], .retNC), ([0b11_010_111], .rst10),
      ([0b11_011_010, 0x34, 0x12], .jpC 0x1234), ([0b11_011_100, 0x34, 0x12], .callC 0x1234),
      ([0b11_011_000], .retC), ([0b11_011_111], .rst18),
      ([0b11_100_010, 0x34, 0x12], .jpPO 0x1234), ([0b11_100_100, 0x34, 0x12], .callPO 0x1234),
      ([0b11_100_000], .retPO), ([0b11_100_111], .rst20),
      ([0b11_101_010, 0x34, 0x12], .jpPE 0x1234), ([0b11_101_100, 0x34, 0x12], .callPE 0x1234),
      ([0b11_101_000], .retPE), ([0b11_101_111], .rst28),
      ([0b11_110_010, 0x34, 0x12], .jpP 0x1234), ([0b11_110_100, 0x34, 0x12], .callP 0x1234),
      ([0b11_110_000], .retP), ([0b11_110_111], .rst30), ([0b11_111_010, 0x34, 0x12], .jpM 0x1234),
      ([0b11_111_100, 0x34, 0x12], .callM 0x1234), ([0b11_111_000], .retM),
      ([0b11_111_111], .rst38), ([0xC3, 0x34, 0x12], .jp 0x1234),
      ([0xCD, 0x34, 0x12], .call 0x1234), ([0xC9], .ret)
      ] : List (List Byte × Instr)).all decodesTo = true := by decide

theorem test_decode_stack :
    ([
      ([0b11_00_0_101], .pushBC), ([0b11_00_0_001], .popBC), ([0b11_01_0_101], .pushDE),
      ([0b11_01_0_001], .popDE), ([0b11_10_0_101], .pushHL), ([0b11_10_0_001], .popHL),
      ([0b11_11_0_101], .pushAF), ([0b11_11_0_001], .popAF), ([0xDD, 0b11_10_0_101], .pushIX),
      ([0xDD, 0b11_10_0_001], .popIX), ([0xDD, 0xE3], .exSPIX), ([0xFD, 0b11_10_0_101], .pushIY),
      ([0xFD, 0b11_10_0_001], .popIY), ([0xFD, 0xE3], .exSPIY), ([0xE3], .exSPHL)
      ] : List (List Byte × Instr)).all decodesTo = true := by decide
/-- Under `I8080` the prefix bytes and byte 00 are unassigned (R81, R82). -/
theorem test_decode_refuses :
    ([[0x00], [0x10], [0xCB, 0x40], [0xED, 0x43], [0xDD, 0x00], [0xFD, 0xCB, 0x00, 0x07],
      [0xDD, 0xCB, 0x00, 0x46]] : List (List Byte)).all
      (fun w => match decode .z80 w with
        | .ok _ => false
        | .error _ => true) = true := by decide

theorem test_decode_refuses_prefixes_i8080 :
    ([[0xCB, 0x00], [0xED, 0x42], [0xDD, 0x09], [0xFD, 0x09]] : List (List Byte)).all
      (fun w => match decode .i8080 w with
        | .ok _ => false
        | .error _ => true) = true := by decide

/-! ### Reset -/

theorem test_reset_mem_wf : State.reset.mem.wf = true := by decide
theorem test_reset_ports_wf : State.reset.io.portsWf = true := by decide

/-- Nothing is loaded at reset, and byte 00 is unassigned: the first step is the decode error. -/
theorem test_reset_first_step :
    ok (step State.reset) (fun t => t.fault == some ⟨0x0000, 0x00⟩ && t.pc == 0x0000) = true := by
  decide

/-- Writing what an unlisted address reads as removes the cell. -/
theorem test_memory_canonical :
    Memory.write (Memory.write [] 0x0005 0x11) 0x0005 0x00 = [] := by decide

/-! ### One step of one instruction, the example of its rule -/

/-- R111. -/
theorem test_add_z80 :
    ok (step { launch .z80 [0xC6, 0x01] with a := 0x7F }) (fun t => af t == (0x80, 0x94)) = true := by
  decide

/-- R111: parity under `I8080`. -/
theorem test_add_i8080 :
    ok (step { launch .i8080 [0xC6, 0x01] with a := 0x7F }) (fun t => af t == (0x80, 0x92)) = true := by
  decide

/-- R112. -/
theorem test_adc :
    ok (step { launch .z80 [0xCE, 0x00] with a := 0xFF, f := flags 0x01 })
      (fun t => af t == (0x00, 0x51)) = true := by decide

/-- R113. -/
theorem test_sub :
    ok (step (launch .z80 [0xD6, 0x01])) (fun t => af t == (0xFF, 0x93)) = true := by decide

/-- R114. -/
theorem test_sbc :
    ok (step { launch .z80 [0xDE, 0x2A] with a := 0x3B, f := flags 0x01 })
      (fun t => af t == (0x10, 0x02)) = true := by decide

/-- R115. -/
theorem test_and_z80 :
    ok (step { launch .z80 [0xE6, 0x81] with a := 0xFF }) (fun t => af t == (0x81, 0x94)) = true := by
  decide

/-- R115: half-carry is bit 3 of (A or s) under `I8080`; F0 and 07 leave it 0. -/
theorem test_and_i8080 :
    ok (step { launch .i8080 [0xE6, 0x07] with a := 0xF0 }) (fun t => af t == (0x00, 0x46)) = true := by
  decide

/-- R116. -/
theorem test_xor :
    ok (step { launch .z80 [0xEE, 0xAA] with a := 0x55 }) (fun t => af t == (0xFF, 0x84)) = true := by
  decide

/-- R117. -/
theorem test_or :
    ok (step { launch .z80 [0xF6, 0x01] with a := 0x80 }) (fun t => af t == (0x81, 0x84)) = true := by
  decide

/-- R118: bits 5 and 3 come from the operand. -/
theorem test_cp :
    ok (step { launch .z80 [0xFE, 0x28] with a := 0x05 }) (fun t => af t == (0x05, 0xBB)) = true := by
  decide

/-- R110: IX = FFFF and d = 02 address the cell 0001 (here the opcode byte 86). -/
theorem test_indexed_wraps :
    ok (step { launch .z80 [0xDD, 0x86, 0x02] with ix := 0xFFFF }) (fun t => t.a == 0x86) = true := by
  decide

/-- R110: IX = 1000 and d = FF address the cell 0FFF. -/
theorem test_indexed_negative :
    ok (exec (.xorIndIX 0xFF) { launch .z80 [] with ix := 0x1000, mem := [(0x0FFF, 0x55)] })
      (fun t => t.a == 0x55) = true := by decide

/-- R130. -/
theorem test_inc_b :
    ok (step { launch .z80 [0x04] with b := 0x7F, f := flags 0x01 })
      (fun t => t.b == 0x80 && af t == (0x00, 0x95)) = true := by decide

/-- R131. -/
theorem test_dec_hl_cell :
    ok (exec .decIndHL { launch .z80 [] with mem := [(0x4000, 0x80)] })
      (fun t => t.byteAt 0x4000 == 0x7F && af t == (0x00, 0x16)) = true := by decide

/-- R132. -/
theorem test_inc_hl_pair :
    ok (exec .incHL { launch .z80 [] with h := 0x12, l := 0xFF })
      (fun t => t.h == 0x13 && t.l == 0x00) = true := by decide

/-- R133. -/
theorem test_dec_sp_wraps :
    ok (exec .decSP { launch .z80 [] with sp := 0x0000 }) (fun t => t.sp == 0xFFFF) = true := by decide

/-- R141. -/
theorem test_rlca : ok (exec .rlca { launch .z80 [] with a := 0x80 })
    (fun t => af t == (0x01, 0x01)) = true := by decide

/-- R142. -/
theorem test_rrca : ok (exec .rrca { launch .i8080 [] with a := 0x81 })
    (fun t => af t == (0xC0, 0x03)) = true := by decide

/-- R143. -/
theorem test_rla : ok (exec .rla { launch .z80 [] with a := 0x80 })
    (fun t => af t == (0x00, 0x01)) = true := by decide

/-- R144. -/
theorem test_rra : ok (exec .rra { launch .z80 [] with a := 0x00, f := flags 0x01 })
    (fun t => af t == (0x80, 0x00)) = true := by decide

/-- R145. -/
theorem test_rlc : ok (exec .rlcB { launch .z80 [] with b := 0x88 })
    (fun t => t.b == 0x11 && af t == (0x00, 0x05)) = true := by decide

/-- R146. -/
theorem test_rrc : ok (exec .rrcIndHL { launch .z80 [] with mem := [(0x4000, 0x01)] })
    (fun t => t.byteAt 0x4000 == 0x80 && af t == (0x00, 0x81)) = true := by decide

/-- R147. -/
theorem test_rl : ok (exec .rlD { launch .z80 [] with d := 0x40, f := flags 0x01 })
    (fun t => t.d == 0x81 && af t == (0x00, 0x84)) = true := by decide

/-- R148. -/
theorem test_rr : ok (exec .rrE { launch .z80 [] with e := 0x03, f := flags 0x01 })
    (fun t => t.e == 0x81 && af t == (0x00, 0x85)) = true := by decide

/-- R149. -/
theorem test_sla : ok (exec .slaA { launch .z80 [] with a := 0x14 })
    (fun t => af t == (0x28, 0x2C)) = true := by decide

/-- R150. -/
theorem test_sra : ok (exec .sraH { launch .z80 [] with h := 0x81 })
    (fun t => t.h == 0xC0 && af t == (0x00, 0x85)) = true := by decide

/-- R151. -/
theorem test_sll : ok (exec .sllL (launch .z80 []))
    (fun t => t.l == 0x01 && af t == (0x00, 0x00)) = true := by decide

/-- R152. -/
theorem test_srl_indexed :
    ok (exec (.srlIndIX 0xFF) { launch .z80 [] with ix := 0x2000, mem := [(0x1FFF, 0x80)] })
      (fun t => t.byteAt 0x1FFF == 0x40 && af t == (0x00, 0x00)) = true := by decide

/-- R160: the document's fixture. -/
theorem test_daa : ok (exec .daa { launch .z80 [] with a := 0x9B })
    (fun t => af t == (0x01, 0x11)) = true := by decide

/-- R160: the subtractive row FA of its table. -/
theorem test_daa_subtractive : ok (exec .daa { launch .z80 [] with a := 0xFA, f := flags 0x12 })
    (fun t => af t == (0x94, 0x83)) = true := by decide

/-- R165. -/
theorem test_add_hl : ok (exec .addHLBC { launch .z80 [] with h := 0x0F, l := 0xFF, c := 0x01 })
    (fun t => t.hl == 0x1000 && af t == (0x00, 0x10)) = true := by decide

/-- R168. -/
theorem test_add_ix : ok (exec .addIXDE { launch .z80 [] with ix := 0x1234, d := 0xF0 })
    (fun t => t.ix == 0x0234 && af t == (0x00, 0x01)) = true := by decide

/-- R166. -/
theorem test_adc_hl :
    ok (exec .adcHLDE { launch .z80 [] with h := 0x7F, l := 0xFF, f := flags 0x01 })
      (fun t => t.hl == 0x8000 && af t == (0x00, 0x94)) = true := by decide

/-- R167. -/
theorem test_sbc_hl : ok (exec .sbcHLBC { launch .z80 [] with h := 0x00, c := 0x01 })
    (fun t => t.hl == 0xFFFF && af t == (0x00, 0x93)) = true := by decide

/-- R177. -/
theorem test_jp_z_not_taken :
    ok (step { launch .z80 [] with pc := 0x0100, mem := Memory.load [] 0x0100 [0xCA, 0x00, 0x20] })
      (fun t => t.pc == 0x0103 && t.out.cycles == some 10) = true := by decide

/-- R178: the stack wraps below address 0. -/
theorem test_call_wraps :
    ok (exec (.call 0x1234) { launch .z80 [] with pc := 0x1003, sp := 0x0001 })
      (fun t => t.pc == 0x1234 && t.sp == 0xFFFF && t.mem == [(0x0000, 0x10), (0xFFFF, 0x03)]) = true := by
  decide

/-- R179: the count of a call not taken. -/
theorem test_call_nc_not_taken :
    ok (step { launch .z80 [0xD4, 0x00, 0x30] with f := flags 0x01 })
      (fun t => t.pc == 0x0003 && t.sp == 0x2000 && t.out.cycles == some 10) = true := by decide

/-- R180. -/
theorem test_ret :
    ok (exec .ret { launch .z80 [] with sp := 0x1FFE, mem := [(0x1FFE, 0x03), (0x1FFF, 0x10)] })
      (fun t => t.pc == 0x1003 && t.sp == 0x2000) = true := by decide

/-- R182. -/
theorem test_rst :
    ok (exec .rst28 { launch .z80 [] with pc := 0x4001, sp := 0x8000 })
      (fun t => t.pc == 0x0028 && t.mem == [(0x7FFE, 0x01), (0x7FFF, 0x40)]) = true := by decide

/-- R190. -/
theorem test_push :
    ok (exec .pushBC { launch .z80 [] with b := 0x12, c := 0x34, sp := 0x3000 })
      (fun t => t.sp == 0x2FFE && t.mem == [(0x2FFE, 0x34), (0x2FFF, 0x12)]) = true := by decide

/-- R191 under `Z80`. -/
theorem test_pop_af_z80 :
    ok (exec .popAF { launch .z80 [] with sp := 0x2FFE, mem := [(0x2FFE, 0xFF), (0x2FFF, 0x9B)] })
      (fun t => af t == (0x9B, 0xFF) && t.sp == 0x3000) = true := by decide

/-- R191 under `I8080`: F reads back as D7. -/
theorem test_pop_af_i8080 :
    ok (exec .popAF { launch .i8080 [] with sp := 0x2FFE, mem := [(0x2FFE, 0xFF), (0x2FFF, 0x9B)] })
      (fun t => af t == (0x9B, 0xD7)) = true := by decide

/-- R194. -/
theorem test_ex_sp_hl :
    ok (exec .exSPHL { launch .z80 [] with
        h := 0x12, l := 0x34, sp := 0x5000, mem := [(0x5000, 0x78), (0x5001, 0x56)] })
      (fun t => t.hl == 0x5678 && t.sp == 0x5000 && t.mem == [(0x5000, 0x34), (0x5001, 0x12)]) = true := by
  decide

/-- R195. -/
theorem test_ex_sp_ix :
    ok (exec .exSPIX { launch .z80 [] with
        ix := 0x0001, sp := 0x9000, mem := [(0x9000, 0xFF), (0x9001, 0xEE)] })
      (fun t => t.ix == 0xEEFF && t.mem == [(0x9000, 0x01)]) = true := by decide

/-- R200. -/
theorem test_halt :
    ok (step { launch .z80 [0x00, 0x76] with pc := 0x0001 }) (fun t => t.halted && t.pc == 0x0002) = true := by
  decide

/-- R212: a prefixed sequence records its first byte; R79: the bytes of the search are read in order. -/
theorem test_decode_error_prefixed :
    ok (step (launch .z80 [0xDD, 0xCB, 0x01, 0x07]))
      (fun t => t.fault == some ⟨0x0000, 0xDD⟩ && t.pc == 0x0000 && t.out.cycles == none &&
        t.out.bus == [.memRead 0 0xDD, .memRead 1 0xCB, .memRead 2 0x01, .memRead 3 0x07]) = true := by
  decide

/-! ### The environment `ENV_MEM` (20_memory.md R50) -/

/-- The default environment is RAM everywhere. -/
theorem test_default_environment :
    ([0x0000, 0x7FFF, 0x8000, 0xFFFF] : List Word).all (fun x => State.reset.kindAt x == .ram) = true := by
  decide

/-- A region wraps modulo 65536, and the first region that holds an address counts. -/
theorem test_regions :
    mixed [0x0FFF, 0x1000, 0x1001, 0x1002, 0x1003, 0xFFFD, 0xFFFE, 0x0000, 0x0001]
      = [.ram, .rom, .hole, .device, .ram, .ram, .device, .device, .ram] := by decide

/-- ROM keeps its byte; the flags and the accesses are those of RAM. -/
theorem test_rom_keeps_its_byte :
    ok (exec .incIndHL { attach .z80 [] with h := 0x10, mem := [(0x1000, 0x7F)] })
      (fun t => t.byteAt 0x1000 == 0x7F && af t == (0x00, 0x94) && t.envHistory == [] &&
        t.out.bus == [.memRead 0x1000 0x7F, .memWrite 0x1000 0x80]) = true := by decide

/-- A push over the boundary from a hole to ROM: neither holds a byte, the hole sees its write. -/
theorem test_push_to_hole_and_rom :
    ok (exec .pushBC { attach .z80 [] with b := 0x12, c := 0x34, sp := 0x1002 })
      (fun t => t.sp == 0x1000 && t.mem == [] && t.envHistory == [.memWrite 0x1001 0x12]) = true := by
  decide

/-- A device's answer is what the instruction reads, whatever it is: A is 0 before OR (HL). -/
theorem test_device_read (v : Byte) (hv : Config.environmentByte [] 0x1002 = v) :
    ∃ t, exec .orIndHL { attach .z80 [] with h := 0x10, l := 0x02 } = .next t ∧ t.a = 0x00 ||| v ∧
      t.envHistory = [.memRead 0x1002 v] := by
  subst hv
  exact ⟨_, rfl, rfl, rfl⟩

/-- The host's word stands in RAM where a device was attached at PC, and the next step runs it. -/
theorem test_fetch_word_over_device :
    ok (step (State.withFetchWord { attach .z80 [] with pc := 0xFFFF } 8 0x76))
      (fun t => t.halted && t.pc == 0x0000) = true := by decide

/-! ### A state and operands that meet the hypotheses of each statement that has some -/

theorem witness_DecodeOfEncodeIsTheInstruction :
    Instr.wf .i8080 (.callNC 0x3000) = true ∧ Instr.wf .z80 (.srlIndIY 0x80) = true := by decide

theorem witness_DecodedBytesAreTheEncoding :
    decode .z80 [0xFD, 0xCB, 0x80, 0x3E, 0x00] = .ok (.srlIndIY 0x80, [0x00]) ∧
      decode .i8080 [0xC6, 0xFF] = .ok (.addAImm 0xFF, []) := ⟨rfl, rfl⟩

theorem witness_AtMostOneRowMatches :
    encode (.jp 0x1234) ++ [0x00] = encode (.jp 0x1234) ++ [0x00] := rfl

theorem witness_PolicySubsets :
    (0xCB#8 : Byte) = 0xCB#8 ∨ (0xCB#8 : Byte) = 0xDD#8 ∨ (0xCB#8 : Byte) = 0xED#8 ∨
      (0xCB#8 : Byte) = 0xFD#8 := .inl rfl

/-- Four bytes that straddle the wrap of PC, and one byte under the other policy. -/
theorem witness_StepRunsTheDecodedInstruction :
    (let s := { launch .z80 [] with
        pc := 0xFFFF, mem := Memory.load [] 0xFFFF [0xDD, 0xCB, 0xFF, 0x3E] }
     s.fault = none ∧ decode s.policy (s.bytesAt 4 s.pc) = .ok (.srlIndIX 0xFF, [])) ∧
    (let s := launch .i8080 [0x80]
     s.fault = none ∧ decode s.policy (s.bytesAt 4 s.pc) = .ok (.addAB, [0x00, 0x00, 0x00])) :=
  ⟨⟨rfl, rfl⟩, ⟨rfl, rfl⟩⟩

theorem witness_DecodeErrorEntry :
    (launch .i8080 [0xCB]).fault = none ∧
      ∃ e, decode .i8080 ((launch .i8080 [0xCB]).bytesAt 4 (launch .i8080 [0xCB]).pc) = .error e :=
  ⟨rfl, _, rfl⟩

theorem witness_OnlyResetLeavesTheFaultState :
    ({ launch .z80 [] with fault := some ⟨0x0000, 0x00⟩ } : State).fault = some ⟨0x0000, 0x00⟩ := rfl

theorem witness_InstructionsRaiseNothing :
    Instr.wf (launch .i8080 []).policy .daa = true ∧
      Instr.wf (launch .z80 []).policy (.rlIndIX 0x7F) = true := by decide

/-- A state whose bytes match a row and one whose bytes match none. -/
theorem witness_OnlyMissingRowsRaiseTheError :
    (launch .z80 [0x80]).fault = none ∧ (launch .z80 []).fault = none ∧
      ok (step (launch .z80 [0x80])) (fun t => t.fault.isNone) = true ∧
      ok (step (launch .z80 [])) (fun t => t.fault.isSome) = true := by decide

theorem witness_PrefixedRowsTrapOnI8080 :
    (launch .i8080 []).policy = .i8080 ∧ Instr.z80Only (.rlcIndIX 0x01) = true := by decide

theorem witness_StepKeepsTheInvariant :
    (launch .i8080 [0xF5]).Inv ∧ (launch .z80 [0xF5]).Inv ∧
      (∃ t, step (launch .i8080 [0xF5]) = .next t) ∧ ∃ t, step (launch .z80 [0xF5]) = .next t :=
  ⟨⟨by decide, by decide, fun _ => by decide⟩, ⟨by decide, by decide, fun _ => by decide⟩,
    ⟨_, rfl⟩, ⟨_, rfl⟩⟩

theorem witness_AbsentStateIsInertOnI8080 :
    (launch .i8080 [0xF1]).policy = .i8080 ∧ ∃ t, step (launch .i8080 [0xF1]) = .next t :=
  ⟨rfl, _, rfl⟩

theorem witness_PolicyAndPortsNeverChange : ∃ t, step (launch .z80 [0xFF]) = .next t := ⟨_, rfl⟩

theorem witness_HaltedIsSetByHaltAlone :
    (∃ t, exec .halt (launch .z80 []) = .next t) ∧ ∃ t, exec .ret (launch .z80 []) = .next t :=
  ⟨⟨_, rfl⟩, ⟨_, rfl⟩⟩

theorem witness_HaltedIsReadByNothing : ∃ t, step (launch .i8080 [0x76]) = .next t := ⟨_, rfl⟩

theorem witness_OutputsAreReadByNothing : ∃ t, exec .exSPIX (launch .z80 []) = .next t := ⟨_, rfl⟩

theorem witness_UndocumentedFlagsAreReadByPushAFAlone :
    Instr.cpB ≠ .pushAF ∧ ∃ t, exec .cpB (launch .z80 []) = .next t := ⟨by decide, _, rfl⟩

theorem witness_AddSubtractFlagIsReadByDaaAndPushAFAlone :
    Instr.popAF ≠ .daa ∧ Instr.popAF ≠ .pushAF ∧ ∃ t, exec .popAF (launch .z80 []) = .next t :=
  ⟨by decide, by decide, _, rfl⟩

theorem witness_StackPointerWriters :
    ∃ t, exec .rst08 (launch .z80 []) = .next t ∧ t.sp ≠ (launch .z80 []).sp := ⟨_, rfl, by decide⟩

theorem witness_ProgramCounterWriters :
    Instr.wf .i8080 (.jpNZ 0x1234) = true ∧
      ∃ t, exec (.jpNZ 0x1234) (launch .i8080 []) = .next t ∧ t.pc ≠ (launch .i8080 []).pc :=
  ⟨rfl, _, rfl, by decide⟩

theorem witness_IndexRegisterWriters :
    (∃ t, exec .incIX (launch .z80 []) = .next t ∧ t.ix ≠ (launch .z80 []).ix) ∧
      ∃ t, exec .decIY (launch .z80 []) = .next t ∧ t.iy ≠ (launch .z80 []).iy :=
  ⟨⟨_, rfl, by decide⟩, ⟨_, rfl, by decide⟩⟩

theorem witness_MemoryWriters :
    ∃ t, exec (.incIndIX 0xFF) (launch .z80 []) = .next t ∧
      ((launch .z80 []).kindAt 0xFFFF).isMemory = true ∧ t.byteAt 0xFFFF ≠ (launch .z80 []).byteAt 0xFFFF :=
  ⟨_, rfl, by decide, by decide⟩

theorem witness_AddPrimitive : (8 = 8 ∨ 8 = 16) ∧ (16 = 8 ∨ 16 = 16) := by decide

theorem witness_SubtractPrimitive : (8 = 8 ∨ 8 = 16) ∧ (16 = 8 ∨ 16 = 16) := by decide

/-- The forms of 41 R110: the four that both policies admit, and the indexed ones under `Z80`. -/
def sourceForms : List (Policy × Src8) :=
  [(.i8080, .loc (.reg .a)), (.i8080, .imm 0xFF), (.i8080, .loc .indHL), (.z80, .loc (.indIX 0x80)),
    (.z80, .loc (.indIY 0x7F))]

theorem witness_AddAndAdcResult :
    ∀ x ∈ sourceForms, x.2.wf (launch x.1 []).policy = true := by decide

theorem witness_SubAndSbcResult :
    ∀ x ∈ sourceForms, x.2.wf (launch x.1 []).policy = true := by decide

theorem witness_AndResult :
    ∀ x ∈ sourceForms, x.2.wf (launch x.1 []).policy = true := by decide

theorem witness_XorAndOrResult :
    ∀ x ∈ sourceForms, x.2.wf (launch x.1 []).policy = true := by decide

theorem witness_CompareResult :
    ∀ x ∈ sourceForms, x.2.wf (launch x.1 []).policy = true := by decide

theorem witness_IncrementResult :
    Place8.wf (launch .i8080 []).policy .indHL = true ∧
      Place8.wf (launch .z80 []).policy (.indIX 0xFF) = true := by decide

theorem witness_DecrementResult :
    Place8.wf (launch .i8080 []).policy (.reg .b) = true ∧
      Place8.wf (launch .z80 []).policy (.indIY 0x00) = true := by decide

theorem witness_PairIncrementAndDecrementResult :
    Pair16.wf (launch .i8080 []).policy .sp = true ∧ Pair16.wf (launch .z80 []).policy .iy = true := by
  decide

theorem witness_AccumulatorRotateResult :
    (RotOp.rlc, Instr.rlca) ∈ [(RotOp.rlc, Instr.rlca), (RotOp.rrc, Instr.rrca), (RotOp.rl, Instr.rla),
      (RotOp.rr, Instr.rra)] ∧
    (RotOp.rr, Instr.rra) ∈ [(RotOp.rlc, Instr.rlca), (RotOp.rrc, Instr.rrca), (RotOp.rl, Instr.rla),
      (RotOp.rr, Instr.rra)] := by decide

theorem witness_PrefixedRotateResult : (launch .z80 []).policy = .z80 := rfl

/-- The boundaries 0 and 99. -/
theorem witness_DaaCorrectsBcdAddition :
    0 < 100 ∧ 99 < 100 ∧ ({ launch .i8080 [] with a := 0x99 } : State).a = bcd 99 ∧
      (launch .z80 []).a = bcd 0 := by decide

theorem witness_DaaCorrectsBcdSubtraction :
    (launch .z80 []).policy = .z80 ∧ 0 < 100 ∧ 99 < 100 ∧
      ({ launch .z80 [] with a := 0x99 } : State).a = bcd 99 ∧ (launch .z80 []).a = bcd 0 := by decide

theorem witness_PairAdditionResult :
    Base16.wf (launch .i8080 []).policy .hl = true ∧ Base16.wf (launch .z80 []).policy .iy = true := by
  decide

theorem witness_PairCarryArithmeticResult : (launch .z80 []).policy = .z80 := rfl

/-- For each condition a state in which it holds and one in which it does not. -/
theorem witness_JumpResult (cc : Cond) :
    (∃ b, Tests (flags b) cc) ∧ ∃ b, ¬ Tests (flags b) cc := by
  cases cc
  · exact ⟨⟨0x00, rfl⟩, ⟨0xFF, (nomatch ·)⟩⟩
  · exact ⟨⟨0xFF, rfl⟩, ⟨0x00, (nomatch ·)⟩⟩
  · exact ⟨⟨0x00, rfl⟩, ⟨0xFF, (nomatch ·)⟩⟩
  · exact ⟨⟨0xFF, rfl⟩, ⟨0x00, (nomatch ·)⟩⟩
  · exact ⟨⟨0x00, rfl⟩, ⟨0xFF, (nomatch ·)⟩⟩
  · exact ⟨⟨0xFF, rfl⟩, ⟨0x00, (nomatch ·)⟩⟩
  · exact ⟨⟨0x00, rfl⟩, ⟨0xFF, (nomatch ·)⟩⟩
  · exact ⟨⟨0xFF, rfl⟩, ⟨0x00, (nomatch ·)⟩⟩

theorem witness_CallResult :
    Tests (launch .i8080 []).f .nz ∧ ¬ Tests (launch .z80 []).f .z ∧ ¬ Tests (launch .i8080 []).f .m :=
  ⟨rfl, (nomatch ·), (nomatch ·)⟩

theorem witness_ReturnResult :
    Tests (launch .i8080 []).f .p ∧ ¬ Tests (launch .z80 []).f .pe := ⟨rfl, (nomatch ·)⟩

/-- The subroutine may leave the state as the call made it, or change a register. -/
theorem witness_ReturnAfterCallRestores :
    (launch .z80 []).kindAt ((launch .z80 []).sp - 1#16) = .ram ∧
    (launch .z80 []).kindAt ((launch .z80 []).sp - 2#16) = .ram ∧
    ∃ t, exec (.call 0x1234) (launch .z80 []) = .next t ∧ ({ t with a := 0x01 } : State).sp = t.sp ∧
      ({ t with a := 0x01 } : State).env = t.env ∧
      ∀ x, x = t.sp ∨ x = t.sp + 1#16 → ({ t with a := 0x01 } : State).byteAt x = t.byteAt x :=
  ⟨rfl, rfl, _, rfl, rfl, rfl, fun _ _ => rfl⟩

theorem witness_PushResult :
    StackReg.wf (launch .i8080 []).policy .af = true ∧ StackReg.wf (launch .z80 []).policy .ix = true := by
  decide

theorem witness_PopResult :
    StackReg.wf (launch .i8080 []).policy .af = true ∧ StackReg.wf (launch .z80 []).policy .iy = true := by
  decide

theorem witness_PopAfterPushRestores :
    StackReg.wf (launch .i8080 []).policy .bc = true ∧ StackReg.wf (launch .z80 []).policy .ix = true ∧
      (launch .z80 []).kindAt ((launch .z80 []).sp - 1#16) = .ram ∧
      (launch .z80 []).kindAt ((launch .z80 []).sp - 2#16) = .ram := by decide

theorem witness_ExchangeResult :
    Base16.wf (launch .i8080 []).policy .hl = true ∧ Base16.wf (launch .z80 []).policy .iy = true := by
  decide

/-- Under an environment that is not all RAM. -/
theorem witness_ExchangeTwiceRestores :
    Base16.wf (launch .i8080 []).policy .hl = true ∧ Base16.wf (attach .z80 []).policy .ix = true ∧
      (attach .z80 []).kindAt (attach .z80 []).sp = .ram ∧
      (attach .z80 []).kindAt ((attach .z80 []).sp + 1#16) = .ram := by decide

theorem witness_EveryInstructionOutputsACount :
    Instr.wf (launch .z80 []).policy .halt = true ∧ ∃ t, exec .halt (launch .z80 []) = .next t :=
  ⟨rfl, _, rfl⟩

theorem witness_TimingOrders :
    (launch .z80 []).policy = .z80 ∧
    (let s := { launch .i8080 [] with f := flags 0x40 }
     s.policy = (launch .i8080 []).policy ∧ Tests s.f .z ∧ ¬ Tests (launch .i8080 []).f .z) :=
  ⟨rfl, rfl, rfl, (nomatch ·)⟩

/-- One memory operand for each clause, at the boundary displacements. -/
theorem witness_OperandsAreWhatTheyName :
    (launch .z80 []).ea .indHL = some 0x4000 ∧ (launch .z80 []).ea (.indIX 0x80) = some 0xFF80 ∧
      (launch .z80 []).ea (.indIY 0x7F) = some 0x007F := by decide

/-- Each clause at its boundaries: the addresses of `mixed`'s regions and those beside them, a state with RAM at
the address written, one with ROM there and one with neither, and two different ports. -/
theorem witness_MemoryAndPortAccesses :
    (mixed [0x0FFF, 0x1000, 0x1001, 0x1002, 0xFFFF, 0x0000, 0x0001]
      = [.ram, .rom, .hole, .device, .device, .device, .ram]) ∧
    (attach .z80 []).kindAt 0x1000 = .rom ∧ (attach .z80 []).kindAt 0x1001 = .hole ∧
    ((attach .z80 []).kindAt 0x1002).isMemory = false ∧ ((attach .z80 []).kindAt 0x0FFF).isMemory = true ∧
    (∃ k, k < 3 ∧ (0x0000#16 : Word) = 0xFFFE#16 + BitVec.ofNat 16 k) ∧
    (∀ k, k < 3 → (0x0001#16 : Word) ≠ 0xFFFE#16 + BitVec.ofNat 16 k) ∧
    (0x01#8 : Byte) ≠ 0x00#8 := by
  refine ⟨by decide, by decide, by decide, by decide, by decide, ⟨2, by decide, by decide⟩, ?_,
    by decide⟩
  intro k hk
  match k, hk with
  | 0, _ | 1, _ | 2, _ => decide

end Sys2Proof.Tests
end

section
/-! SUPPORT. The flag functions (40 §1) in exact arithmetic, at every width, and the ALU primitives
`alu_add_W` and `alu_sub_W` assembled from them (40 §2). -/

namespace Sys2Proof.Machine

open Sys2Proof.Claims

/-! ### The write of `f.N` (R99) -/

section
variable (p : Policy) (b : Bool) (f : Flags)

@[simp] theorem Flags.setN_c : (Flags.setN p b f).c = f.c := by cases p <;> rfl
@[simp] theorem Flags.setN_h : (Flags.setN p b f).h = f.h := by cases p <;> rfl
@[simp] theorem Flags.setN_z : (Flags.setN p b f).z = f.z := by cases p <;> rfl
@[simp] theorem Flags.setN_s : (Flags.setN p b f).s = f.s := by cases p <;> rfl
@[simp] theorem Flags.setN_pv : (Flags.setN p b f).pv = f.pv := by cases p <;> rfl
@[simp] theorem Flags.setN_f5 : (Flags.setN p b f).f5 = f.f5 := by cases p <;> rfl
@[simp] theorem Flags.setN_f3 : (Flags.setN p b f).f3 = f.f3 := by cases p <;> rfl
@[simp] theorem Flags.setN_n_z80 : (Flags.setN .z80 b f).n = b := rfl
@[simp] theorem Flags.setN_n_i8080 : (Flags.setN .i8080 b f).n = f.n := rfl

end

/-! ### Flags of a result (R90, R91, R92, R106) -/

section
variable {w : Nat}

theorem zeroFlag_iff (r : BitVec w) : zeroFlag r = true ↔ r.toNat = 0 := by
  simp [zeroFlag, BitVec.toNat_eq]

theorem signFlag_iff (r : BitVec w) : signFlag r = true ↔ 2 ^ (w - 1) ≤ r.toNat := by
  simp [signFlag, BitVec.msb_eq_decide]

theorem zeroSign_of_eq {r : BitVec w} {g : Flags} (hz : g.z = zeroFlag r) (hs : g.s = signFlag r) :
    ZeroSign r g :=
  ⟨hz ▸ zeroFlag_iff r, hs ▸ signFlag_iff r⟩

/-- The sum of the eight low bits counts them. -/
theorem onesLow8_eq_countP (r : BitVec w) :
    onesLow8 r = (List.range 8).countP (fun k => r.getLsbD k) := by
  have hrange : List.range 8 = [0, 1, 2, 3, 4, 5, 6, 7] := rfl
  simp only [onesLow8, hrange, List.countP_cons, List.countP_nil, Bool.toNat, Bool.cond_eq_ite]
  omega

theorem parity8_iff (r : BitVec w) : parity8 r = true ↔ EvenOnes r := by
  simp [parity8, EvenOnes, onesLow8_eq_countP]

@[simp] theorem arithPV_z80 (overflow : Bool) (r : BitVec w) : arithPV .z80 overflow r = overflow := rfl
@[simp] theorem arithPV_i8080 (overflow : Bool) (r : BitVec w) :
    arithPV .i8080 overflow r = parity8 r := rfl

/-! ### Carry, borrow and their halves (R93 to R96) -/

theorem carryAdd_iff (a b : BitVec w) (cin : Bool) :
    carryAdd a b cin = true ↔ 2 ^ w ≤ a.toNat + b.toNat + cin.toNat := by
  have hpos : 0 < 2 ^ w := Nat.two_pow_pos w
  simp only [carryAdd, decide_eq_true_eq]
  omega

theorem borrowSub_iff (a b : BitVec w) (bin : Bool) :
    borrowSub a b bin = true ↔ a.toNat < b.toNat + bin.toNat := by
  simp only [borrowSub, decide_eq_true_eq]
  omega

/-- Below twice a boundary, the bit at the boundary is set exactly from the boundary on. -/
theorem div_mod_two_ne_zero_iff {x bound : Nat} (h : x < 2 * bound) :
    x / bound % 2 ≠ 0 ↔ bound ≤ x := by
  have hpos : 0 < bound := by omega
  have hlt : x / bound < 2 := (Nat.div_lt_iff_lt_mul hpos).2 h
  rw [Nat.mod_eq_of_lt hlt, ← Nat.one_le_iff_ne_zero, Nat.le_div_iff_mul_le hpos, Nat.one_mul]

theorem halfAdd_iff (a b : BitVec w) (cin : Bool) :
    halfAdd a b cin = true ↔
      2 ^ (w - 4) ≤ a.toNat % 2 ^ (w - 4) + b.toNat % 2 ^ (w - 4) + cin.toNat := by
  have hpos : 0 < 2 ^ (w - 4) := Nat.two_pow_pos _
  have ha := Nat.mod_lt a.toNat hpos
  have hb := Nat.mod_lt b.toNat hpos
  have hc := cin.toNat_le
  rw [halfAdd, decide_eq_true_iff]
  exact div_mod_two_ne_zero_iff (by simp only [lowPart]; omega)

theorem halfSub_iff (a b : BitVec w) (bin : Bool) :
    halfSub a b bin = true ↔ a.toNat % 2 ^ (w - 4) < b.toNat % 2 ^ (w - 4) + bin.toNat := by
  rw [halfSub, decide_eq_true_iff]
  simp only [lowPart]
  omega

/-! ### Signed overflow (R97, R98) -/

/-- `omega` takes a power of symbolic exponent as one atom only when it is a natural number. -/
theorem two_pow_eq_natCast (n : Nat) : (2 : Int) ^ n = ((2 ^ n : Nat) : Int) := by norm_cast

/-- The sign test of R97 sees exactly the exact sums that two's complement cannot hold. -/
theorem overflowAdd_iff (hw : 0 < w) {a b r : BitVec w} {cin : Bool}
    (hr : r.toNat = (a.toNat + b.toNat + cin.toNat) % 2 ^ w) :
    overflowAdd a b r = true ↔ OutOfRange w (a.toInt + b.toInt + cin.toNat) := by
  have hpow : 2 ^ (w - 1) * 2 = 2 ^ w := Nat.two_pow_pred_mul_two hw
  have hcin := cin.toNat_le
  have ha := a.isLt
  have hb := b.isLt
  have wraps : r.toNat = a.toNat + b.toNat + cin.toNat ∨
      r.toNat + 2 ^ w = a.toNat + b.toNat + cin.toNat := by
    rcases Nat.lt_or_ge (a.toNat + b.toNat + cin.toNat) (2 ^ w) with hlt | hge
    · exact .inl (hr.trans (Nat.mod_eq_of_lt hlt))
    · rw [Nat.mod_eq_sub_mod hge, Nat.mod_eq_of_lt (by omega)] at hr
      omega
  have hr' := r.isLt
  simp only [overflowAdd, OutOfRange, two_pow_eq_natCast, BitVec.msb_eq_decide,
    BitVec.toInt_eq_toNat_cond, Bool.and_eq_true, beq_iff_eq, bne_iff_ne, ne_eq, decide_eq_decide]
  split <;> split <;> omega

/-- The sign test of R98 sees exactly the exact differences that two's complement cannot hold. -/
theorem overflowSub_iff (hw : 0 < w) {a b r : BitVec w} {bin : Bool}
    (hr : (r.toNat : Int) = ((a.toNat : Int) - b.toNat - bin.toNat) % 2 ^ w) :
    overflowSub a b r = true ↔ OutOfRange w (a.toInt - b.toInt - bin.toNat) := by
  have hpow : 2 ^ (w - 1) * 2 = 2 ^ w := Nat.two_pow_pred_mul_two hw
  have hbin := bin.toNat_le
  have ha := a.isLt
  have hb := b.isLt
  have wraps : (r.toNat : Int) = (a.toNat : Int) - b.toNat - bin.toNat ∨
      (r.toNat : Int) = (a.toNat : Int) - b.toNat - bin.toNat + (2 ^ w : Nat) := by
    rw [two_pow_eq_natCast] at hr
    rcases Int.lt_or_le ((a.toNat : Int) - b.toNat - bin.toNat) 0 with hneg | hnonneg
    · rw [← Int.add_emod_right, Int.emod_eq_of_lt (by omega) (by omega)] at hr
      exact .inr hr
    · exact .inl (hr.trans (Int.emod_eq_of_lt hnonneg (by omega)))
  have hr' := r.isLt
  simp only [overflowSub, OutOfRange, two_pow_eq_natCast, BitVec.msb_eq_decide,
    BitVec.toInt_eq_toNat_cond, Bool.and_eq_true, bne_iff_ne, ne_eq, decide_eq_decide]
  split <;> split <;> omega

end

/-! ### The primitives (R102, R103) -/

section
variable {w : Nat} (p : Policy) (a b : BitVec w)

theorem aluAdd_toNat (cin : Bool) (f : Flags) :
    (aluAdd p a b cin f).1.toNat = (a.toNat + b.toNat + cin.toNat) % 2 ^ w := by
  simp only [aluAdd, BitVec.toNat_ofNat]

theorem aluAdd_sumFlags (hw : 0 < w) (cin : Bool) (f : Flags) :
    SumFlags p a b cin (aluAdd p a b cin f).1 f (aluAdd p a b cin f).2 := by
  have hov := overflowAdd_iff hw (aluAdd_toNat p a b cin f)
  have heven := parity8_iff (aluAdd p a b cin f).1
  refine ⟨?carry, ?half, ?zeroSign, ?z80, ?i8080, ?undocumented⟩
  case carry => simpa [aluAdd] using carryAdd_iff a b cin
  case half => simpa [aluAdd] using halfAdd_iff a b cin
  case zeroSign => exact zeroSign_of_eq (by simp [aluAdd]) (by simp [aluAdd])
  case z80 => rintro rfl; exact ⟨by simpa [aluAdd] using hov, by simp [aluAdd]⟩
  case i8080 => rintro rfl; exact ⟨by simpa [aluAdd] using heven, by simp [aluAdd]⟩
  case undocumented => exact ⟨by simp [aluAdd], by simp [aluAdd]⟩

theorem aluSub_toNat (bin : Bool) (f : Flags) :
    ((aluSub p a b bin f).1.toNat : Int) = ((a.toNat : Int) - b.toNat - bin.toNat) % 2 ^ w := by
  have hpos : (0 : Int) < ((2 ^ w : Nat) : Int) := Int.natCast_pos.2 (Nat.two_pow_pos w)
  rw [two_pow_eq_natCast]
  simp only [aluSub, BitVec.toNat_ofInt]
  exact Int.toNat_of_nonneg (Int.emod_nonneg _ hpos.ne')

theorem aluSub_differenceFlags (hw : 0 < w) (bin : Bool) (f : Flags) :
    DifferenceFlags p a b bin (aluSub p a b bin f).1 f (aluSub p a b bin f).2 := by
  have hov := overflowSub_iff hw (aluSub_toNat p a b bin f)
  have heven := parity8_iff (aluSub p a b bin f).1
  refine ⟨?borrow, ?half, ?zeroSign, ?z80, ?i8080⟩
  case borrow => simpa [aluSub] using borrowSub_iff a b bin
  case half => simpa [aluSub] using halfSub_iff a b bin
  case zeroSign => exact zeroSign_of_eq (by simp [aluSub]) (by simp [aluSub])
  case z80 => rintro rfl; exact ⟨by simpa [aluSub] using hov, by simp [aluSub]⟩
  case i8080 => rintro rfl; exact ⟨by simpa [aluSub] using heven, by simp [aluSub]⟩

theorem aluSub_keepsUndocumented (bin : Bool) (f : Flags) :
    KeepsUndocumented f (aluSub p a b bin f).2 :=
  ⟨by simp [aluSub], by simp [aluSub]⟩

end

/-- Settles O28: the wrapped sum and its flags hold at every width that is not zero. -/
theorem addPrimitive : Obligations.AddPrimitive := by
  intro w p a b cin f hw
  have hpos : 0 < w := by omega
  exact ⟨aluAdd_toNat p a b cin f, aluAdd_sumFlags p a b hpos cin f⟩

/-- Settles O29: the wrapped difference and its flags hold at every width that is not zero. -/
theorem subtractPrimitive : Obligations.SubtractPrimitive := by
  intro w p a b bin f hw
  have hpos : 0 < w := by omega
  exact ⟨aluSub_toNat p a b bin f, aluSub_differenceFlags p a b hpos bin f,
    aluSub_keepsUndocumented p a b bin f⟩

end Sys2Proof.Machine
end

section
/-! SUPPORT. The 8-bit ALU family (41_alu8.md): the rows, the one execution rule that all of them share, its
frame and accesses, and from them the result of every operation. -/

namespace Sys2Proof.Machine

open Sys2Proof.Claims

/-! ### Rows (30_encoding.md R75, R110) -/

/-- The number of an operation in the field o (30_encoding.md R75). -/
def aluCode : AluOp → Nat
  | .add => 0
  | .adc => 1
  | .sub => 2
  | .sbc => 3
  | .and => 4
  | .xor => 5
  | .or => 6
  | .cp => 7

/-- The bytes are those of R110, and the indexed forms are the ones that only `Z80` admits. -/
theorem isRow_alu (op : AluOp) (src : Src8) :
    IsRow (Instr.alu op src) (aluRow (aluCode op) src) (src.wf .i8080) := by
  have hrow : encode (Instr.alu op src) = aluRow (aluCode op) src ∧
      (Instr.alu op src).z80Only = !src.wf .i8080 := by
    cases src with
    | imm n => cases op <;> exact ⟨rfl, rfl⟩
    | loc m =>
      cases m with
      | reg r => cases op <;> cases r <;> exact ⟨rfl, rfl⟩
      | _ => cases op <;> exact ⟨rfl, rfl⟩
  obtain ⟨hencode, hz80Only⟩ := hrow
  refine ⟨hencode, fun p => ?_⟩
  cases p <;> simp [Instr.wf, hz80Only]

/-! ### Execution (R110) -/

/-- A row that only `Z80` has performs `aluA` there, which is where its operand form exists. -/
theorem exec_alu_of_guard {op : AluOp} {src : Src8} {s : State} {first : Byte}
    (hwf : (s.policy == .z80) = true)
    (hguard : exec (Instr.alu op src) s = onZ80 first 3 (aluA op src) s) :
    exec (Instr.alu op src) s = .next (aluA op src s) :=
  hguard.trans (onZ80_z80 _ _ _ (eq_of_beq hwf))

/-- Every row of the family performs `aluA` wherever its operand form exists. -/
theorem exec_alu (op : AluOp) {src : Src8} {s : State} (hwf : src.wf s.policy = true) :
    exec (Instr.alu op src) s = .next (aluA op src s) := by
  cases src with
  | imm n => cases op <;> rfl
  | loc m =>
    cases m with
    | reg r => cases op <;> cases r <;> rfl
    | indHL => cases op <;> rfl
    | indIX d => exact exec_alu_of_guard (first := 0xDD) hwf (by cases op <;> rfl)
    | indIY d => exact exec_alu_of_guard (first := 0xFD) hwf (by cases op <;> rfl)

section
variable (op : AluOp) (src : Src8) (s : State)

/-- Reading a source operand makes the reads that its form names. -/
theorem State.readSrc_accesses : Accesses (srcReads s src) s (s.readSrc src).2 := by
  cases src with
  | imm n => simp [Accesses, srcReads, State.readSrc]
  | loc m =>
    simp only [Accesses, srcReads, placeReads, State.readSrc, State.readPlace_spec]
    cases s.ea m <;> simp [State.historyAfter_spec, Outputs.log]

@[simp] theorem aluA_a : (aluA op src s).a = (aluStep op s.policy s.a (s.srcValue src) s.f).1 := by
  simp [aluA]

@[simp] theorem aluA_f : (aluA op src s).f = (aluStep op s.policy s.a (s.srcValue src) s.f).2 := by
  simp [aluA]

theorem aluA_accesses : Accesses (srcReads s src) s (aluA op src s) :=
  State.readSrc_accesses src s

theorem aluA_keepsMemory : KeepsMemory s (aluA op src s) :=
  ⟨State.readSrc_env src s, fun _ h =>
    State.byteAt_congr (State.readSrc_env src s) (State.readSrc_mem src s) h⟩

theorem aluA_onlyAF : OnlyAF s (aluA op src s) := by
  refine ⟨?_, aluA_keepsMemory op src s⟩
  cases src with
  | imm n => rfl
  | loc m => cases m <;> rfl

theorem aluA_cp_onlyF : OnlyF s (aluA .cp src s) := by
  obtain ⟨hframe, hmem⟩ := aluA_onlyAF .cp src s
  have ha : (aluA .cp src s).a = s.a := by rw [aluA_a, aluStep]
  rw [ha] at hframe
  exact ⟨hframe, hmem⟩

end

/-! ### Addition and subtraction (R111 to R114) -/

section
variable (carry : Bool) (p : Policy) (a v : Byte) (f : Flags)

/-- ADC is ADD with the carry flag as carry-in. -/
theorem aluStep_addition :
    aluStep (if carry then .adc else .add) p a v f = aluAdd p a v (carry && f.c) f := by
  cases carry <;> rfl

/-- SBC is SUB with the carry flag as borrow-in. -/
theorem aluStep_subtraction :
    aluStep (if carry then .sbc else .sub) p a v f = aluSub p a v (carry && f.c) f := by
  cases carry <;> rfl

/-- The wrapped difference of two bytes; 512 keeps the natural subtraction above zero. -/
theorem aluSub_byte_toNat (bin : Bool) :
    (aluSub p a v bin f).1.toNat = (a.toNat + 512 - v.toNat - bin.toNat) % 256 := by
  have hdiff := aluSub_toNat p a v bin f
  have hv := v.isLt
  have hbin := bin.toNat_le
  norm_num at hdiff
  omega

end

/-- Settles O30: both operations are `alu_add_8`, with the carry flag as carry-in for ADC. -/
theorem addAndAdcResult : Obligations.AddAndAdcResult := by
  intro carry src s hwf i v cin
  have hcode : aluCode (if carry then .adc else .add) = carry.toNat := by cases carry <;> rfl
  refine ⟨hcode ▸ isRow_alu _ src, _, exec_alu _ hwf, ?sum, ?flags, aluA_onlyAF ..,
    aluA_accesses ..⟩
  case sum =>
    rw [aluA_a, aluStep_addition]
    exact aluAdd_toNat ..
  case flags =>
    rw [aluA_a, aluA_f, aluStep_addition]
    exact aluAdd_sumFlags _ _ _ (by decide) _ _

/-- Settles O31: both operations are `alu_sub_8`, with the carry flag as borrow-in for SBC. -/
theorem subAndSbcResult : Obligations.SubAndSbcResult := by
  intro carry src s hwf i v bin
  have hcode : aluCode (if carry then .sbc else .sub) = 2 + carry.toNat := by cases carry <;> rfl
  refine ⟨hcode ▸ isRow_alu _ src, _, exec_alu _ hwf, ?difference, ?flags, ?undocumented,
    aluA_onlyAF .., aluA_accesses ..⟩
  case difference =>
    rw [aluA_a, aluStep_subtraction]
    exact aluSub_byte_toNat ..
  case flags =>
    rw [aluA_a, aluA_f, aluStep_subtraction]
    exact aluSub_differenceFlags _ _ _ (by decide) _ _
  case undocumented =>
    rw [aluA_f, aluStep_subtraction]
    exact aluSub_keepsUndocumented ..

/-! ### Logic (R116, R117) -/

/-- The flag tail of the logical operations (40 R104). -/
theorem logicFlags_spec (p : Policy) (r : Byte) (half : Bool) (f : Flags) :
    LogicFlags p r half f (logicFlags p r half f) := by
  refine ⟨?carry, ?half, ?zeroSign, ?parity, ?addSubtract, ?undocumented⟩
  case carry => simp [logicFlags]
  case half => simp [logicFlags]
  case zeroSign => exact zeroSign_of_eq (by simp [logicFlags]) (by simp [logicFlags])
  case parity => simpa [logicFlags] using parity8_iff r
  case addSubtract => cases p <;> simp [logicFlags]
  case undocumented => exact ⟨by simp [logicFlags], by simp [logicFlags]⟩

/-- Settles O33: both operations are `alu_logic`, bit by bit, with half-carry 0. -/
theorem xorAndOrResult : Obligations.XorAndOrResult := by
  intro isOr src s hwf i v
  have hcode : aluCode (if isOr then .or else .xor) = 5 + isOr.toNat := by cases isOr <;> rfl
  refine ⟨hcode ▸ isRow_alu _ src, _, exec_alu _ hwf, ?bits, ?flags, aluA_onlyAF ..,
    aluA_accesses ..⟩
  case bits =>
    intro k
    rw [aluA_a]
    cases isOr with
    | false => exact BitVec.getLsbD_xor
    | true => exact BitVec.getLsbD_or
  case flags =>
    rw [aluA_a, aluA_f]
    cases isOr <;> exact logicFlags_spec ..

/-! ### Comparison (R118) -/

section
variable (p : Policy) (v : Byte) (f : Flags)

@[simp] theorem Flags.setXY_c : (Flags.setXY p v f).c = f.c := by cases p <;> rfl
@[simp] theorem Flags.setXY_h : (Flags.setXY p v f).h = f.h := by cases p <;> rfl
@[simp] theorem Flags.setXY_z : (Flags.setXY p v f).z = f.z := by cases p <;> rfl
@[simp] theorem Flags.setXY_s : (Flags.setXY p v f).s = f.s := by cases p <;> rfl
@[simp] theorem Flags.setXY_pv : (Flags.setXY p v f).pv = f.pv := by cases p <;> rfl
@[simp] theorem Flags.setXY_n : (Flags.setXY p v f).n = f.n := by cases p <;> rfl
@[simp] theorem Flags.setXY_f5_z80 : (Flags.setXY .z80 v f).f5 = v.getLsbD 5 := rfl
@[simp] theorem Flags.setXY_f3_z80 : (Flags.setXY .z80 v f).f3 = v.getLsbD 3 := rfl
@[simp] theorem Flags.setXY_i8080 : Flags.setXY .i8080 v f = f := rfl

end

section
variable (p : Policy) (a v : Byte) (f : Flags)

theorem aluSub_fst_eq_sub : (aluSub p a v false f).1 = a - v := by
  apply BitVec.eq_of_toNat_eq
  have ha := a.isLt
  have hv := v.isLt
  rw [aluSub_byte_toNat, BitVec.toNat_sub, Bool.toNat_false]
  omega

/-- CP leaves the flags of the difference: F5 and F3, which it may take from the operand, are not among
them. -/
theorem compareFlags_differenceFlags :
    DifferenceFlags p a v false (a - v) f (compareFlags p a v f) := by
  have hsub := aluSub_differenceFlags p a v (by decide) false f
  rw [aluSub_fst_eq_sub] at hsub
  simpa [DifferenceFlags, ZeroSign, compareFlags] using hsub

end

/-- Settles O34: CP takes the flags of `alu_sub_8`, and gives A back. -/
theorem compareResult : Obligations.CompareResult := by
  intro src s hwf v
  refine ⟨isRow_alu .cp src, _, exec_alu .cp hwf, ?flags, ?z80, ?i8080, aluA_cp_onlyF ..,
    aluA_accesses ..⟩
  case flags =>
    rw [aluA_f]
    exact compareFlags_differenceFlags ..
  case z80 =>
    intro hp
    rw [aluA_f, hp]
    exact ⟨Flags.setXY_f5_z80 .., Flags.setXY_f3_z80 ..⟩
  case i8080 =>
    intro hp
    rw [aluA_f, hp]
    exact aluSub_keepsUndocumented ..

end Sys2Proof.Machine
end

section
/-! SUPPORT. INC ss and DEC ss (42_incdec.md §2): both are a charged write of the pair, whose frame and accesses
are stated once; the rows, the execution rules and the wrapped value complete the result. -/

namespace Sys2Proof.Machine

open Sys2Proof.Claims

/-! ### Rows (30_encoding.md R73, R81) -/

/-- An instruction with these bytes, admitted by `I8080` unless it is a `Z80`-only row, is that row. -/
theorem isRow_of_encode {i : Instr} {bytes : List Byte} {both : Bool} (hencode : encode i = bytes)
    (hz80Only : i.z80Only = !both) : IsRow i bytes both := by
  refine ⟨hencode, fun p => ?_⟩
  cases p <;> simp [Instr.wf, hz80Only]

section
variable (q : Pair16)

theorem isRow_inc16 : IsRow (Instr.inc16 q) (incDecPairRow 0x03 q) (q.wf .i8080) := by
  cases q <;> exact isRow_of_encode rfl rfl

theorem isRow_dec16 : IsRow (Instr.dec16 q) (incDecPairRow 0x0B q) (q.wf .i8080) := by
  cases q <;> exact isRow_of_encode rfl rfl

end

/-! ### Execution (R132, R133) -/

section
variable {q : Pair16} {s : State}

/-- Every row of INC ss performs `incPair16` wherever its operand form exists. -/
theorem exec_inc16 (hwf : q.wf s.policy = true) :
    exec (Instr.inc16 q) s = .next (incPair16 q s) := by
  cases q with
  | bc | de | hl | sp => rfl
  | ix => exact onZ80_z80 0xDD 2 (incPair16 .ix) (eq_of_beq hwf)
  | iy => exact onZ80_z80 0xFD 2 (incPair16 .iy) (eq_of_beq hwf)

/-- Every row of DEC ss performs `decPair16` wherever its operand form exists. -/
theorem exec_dec16 (hwf : q.wf s.policy = true) :
    exec (Instr.dec16 q) s = .next (decPair16 q s) := by
  cases q with
  | bc | de | hl | sp => rfl
  | ix => exact onZ80_z80 0xDD 2 (decPair16 .ix) (eq_of_beq hwf)
  | iy => exact onZ80_z80 0xFD 2 (decPair16 .iy) (eq_of_beq hwf)

end

/-! ### The charged write of a pair -/

section
variable (q : Pair16) (w : Word) (k : Nat) (s : State)

/-- Every pair after a charged write of one. -/
theorem State.pair_charge_setPair (q' : Pair16) :
    ((s.setPair q w).charge k).pair q' = if q' = q then w else s.pair q' := by
  rw [← State.pair_setPair]
  cases q' <;> rfl

theorem State.charge_setPair_keepsMemory : KeepsMemory s ((s.setPair q w).charge k) :=
  ⟨by simp, fun _ h => State.byteAt_congr (by simp) (by simp) h⟩

theorem State.charge_setPair_wrotePair : WrotePair q w s ((s.setPair q w).charge k) := by
  refine ⟨?written, ?otherPairs, ?accumulator, State.charge_setPair_keepsMemory q w k s, ?rest⟩
  case written => simp [State.pair_charge_setPair]
  case otherPairs => intro q' hne; simp [State.pair_charge_setPair, hne]
  case accumulator | rest => simp

theorem State.charge_setPair_accesses : Accesses [] s ((s.setPair q w).charge k) := by
  simp [Accesses]

/-- What INC ss and DEC ss share, whatever the value they give the pair: no other register, no flag, no byte of
memory and no access. -/
theorem State.charge_setPair_spec :
    WrotePair q w s ((s.setPair q w).charge k) ∧ ((s.setPair q w).charge k).f = s.f ∧
      Accesses [] s ((s.setPair q w).charge k) :=
  ⟨State.charge_setPair_wrotePair q w k s, by simp, State.charge_setPair_accesses q w k s⟩

end

/-! ### The result -/

/-- 65535 stands for -1 modulo 65536. -/
theorem Word.toNat_sub_one (x : Word) : (x - 1#16).toNat = (x.toNat + 65535) % 65536 := by
  rw [BitVec.toNat_sub, Nat.add_comm]
  rfl

/-- Settles O37: each is a charged write of the pair's own value plus or minus one, wrapped. -/
theorem pairIncrementAndDecrementResult : Obligations.PairIncrementAndDecrementResult := by
  intro q s hwf
  refine ⟨isRow_inc16 q, isRow_dec16 q, ?increment, ?decrement⟩
  case increment =>
    exact ⟨_, _, exec_inc16 hwf, BitVec.toNat_add _ 1#16, State.charge_setPair_spec ..⟩
  case decrement =>
    exact ⟨_, _, exec_dec16 hwf, Word.toNat_sub_one _, State.charge_setPair_spec ..⟩

end Sys2Proof.Machine
end

section
/-! SUPPORT. The rotates and shifts (43_rotate_shift.md): one bit position moved in exact arithmetic for each of
the eight operations, the short flag tail, and from them the result of the accumulator forms. -/

namespace Sys2Proof.Machine

open Sys2Proof.Claims

/-! ### One bit position moved (R140, R145 to R152) -/

section
variable (m : Byte)

theorem Byte.getLsbD_seven : m.getLsbD 7 = decide (128 ≤ m.toNat) := BitVec.msb_eq_decide m

theorem Byte.getLsbD_zero : m.getLsbD 0 = decide (m.toNat % 2 = 1) := Nat.testBit_zero m.toNat

theorem Byte.getLsbD_seven_toNat : (m.getLsbD 7).toNat = m.toNat / 128 := by
  have hm := m.isLt
  rw [Byte.getLsbD_seven, Bool.toNat, Bool.cond_decide]
  split <;> omega

theorem Byte.getLsbD_zero_toNat : (m.getLsbD 0).toNat = m.toNat % 2 := by
  rw [Byte.getLsbD_zero, Bool.toNat, Bool.cond_decide]
  split <;> omega

/-- A fill below the shifted bits is added to them. -/
theorem Byte.toNat_shiftLeft_or (fill : Bool) :
    ((m <<< 1) ||| BitVec.ofNat 8 fill.toNat).toNat = (2 * m.toNat + fill.toNat) % 256 := by
  have hfill := fill.toNat_le
  have hshifted : (m <<< 1).toNat = 2 ^ 1 * (m.toNat % 128) := by
    simp only [BitVec.toNat_shiftLeft, Nat.shiftLeft_eq]
    omega
  have hlow : (BitVec.ofNat 8 fill.toNat).toNat = fill.toNat := by cases fill <;> rfl
  rw [BitVec.toNat_or, hshifted, hlow, ← Nat.two_pow_add_eq_or_of_lt (by omega)]
  omega

/-- A fill above the shifted bits is added to them. -/
theorem Byte.toNat_shiftRight_or (fill : Bool) :
    ((m >>> 1) ||| (BitVec.ofNat 8 fill.toNat <<< 7)).toNat = m.toNat / 2 + 128 * fill.toNat := by
  have hm := m.isLt
  have hshifted : (m >>> 1).toNat = m.toNat / 2 := rfl
  have hhigh : (BitVec.ofNat 8 fill.toNat <<< 7).toNat = 2 ^ 7 * fill.toNat := by cases fill <;> rfl
  rw [BitVec.toNat_or, hshifted, hhigh, Nat.or_comm, ← Nat.two_pow_add_eq_or_of_lt (by omega)]
  omega

/-- SRA keeps bit 7 in its place: the mask gives the fill that a rotate would. -/
theorem Byte.and_0x80 : m &&& 0x80#8 = BitVec.ofNat 8 (m.getLsbD 7).toNat <<< 7 := by
  have hmask : m &&& 0x80#8 = if m.getLsbD 7 then 0x80#8 else 0#8 := BitVec.and_twoPow m 7
  rw [hmask]
  cases m.getLsbD 7 <;> rfl

end

section
variable (op : RotOp) (m : Byte) (cin : Bool)

theorem rotateByte_toNat : (rotateByte op m cin).1.toNat = rotated op m.toNat cin := by
  cases op with
  | rlc => exact (Byte.toNat_shiftLeft_or m _).trans (by rw [Byte.getLsbD_seven_toNat, rotated])
  | rrc => exact (Byte.toNat_shiftRight_or m _).trans (by rw [Byte.getLsbD_zero_toNat, rotated])
  | rl => exact Byte.toNat_shiftLeft_or m cin
  | rr => exact Byte.toNat_shiftRight_or m cin
  | sla => simp [rotateByte, rotated, Nat.shiftLeft_eq, Nat.mul_comm]
  | sra =>
    rw [rotateByte, Byte.and_0x80]
    exact (Byte.toNat_shiftRight_or m _).trans (by rw [Byte.getLsbD_seven_toNat, rotated])
  | sll => exact Byte.toNat_shiftLeft_or m true
  | srl => rfl

theorem rotateByte_out : (rotateByte op m cin).2 = rotatedOut op m.toNat := by
  cases op with
  | rlc | rl | sla | sll => exact Byte.getLsbD_seven m
  | rrc | rr | sra | srl => exact Byte.getLsbD_zero m

end

/-! ### The short flag tail (R140) -/

section
variable (p : Policy) (v : Byte) (out : Bool) (f : Flags)

theorem Flags.rotA_rotateFlags : RotateFlags p v out f (Flags.rotA p v out f) := by
  refine ⟨?carry, ?half, ?z80, ?i8080⟩
  case carry | half => simp [Flags.rotA]
  case z80 => rintro rfl; simp [Flags.rotA]
  case i8080 => rintro rfl; exact ⟨rfl, rfl, rfl⟩

@[simp] theorem Flags.rotA_z : (Flags.rotA p v out f).z = f.z := by simp [Flags.rotA]
@[simp] theorem Flags.rotA_s : (Flags.rotA p v out f).s = f.s := by simp [Flags.rotA]
@[simp] theorem Flags.rotA_pv : (Flags.rotA p v out f).pv = f.pv := by simp [Flags.rotA]

end

/-! ### The accumulator forms (R141 to R144) -/

/-- The four rows that rotate A without a prefix, with the operation of each. -/
def accumulatorRotates : List (RotOp × Instr) :=
  [(.rlc, .rlca), (.rrc, .rrca), (.rl, .rla), (.rr, .rra)]

/-- Each form is its row, under either policy, and performs `rotateA`. -/
theorem accumulatorRotate_row_exec {op : RotOp} {i : Instr} (h : (op, i) ∈ accumulatorRotates) :
    IsRow i [BitVec.ofNat 8 (0x07 + 8 * rotCode op)] true ∧
      ∀ s, exec i s = .next (rotateA op s) := by
  simp only [accumulatorRotates, List.mem_cons, Prod.mk.injEq, List.not_mem_nil, or_false] at h
  obtain ⟨rfl, rfl⟩ | ⟨rfl, rfl⟩ | ⟨rfl, rfl⟩ | ⟨rfl, rfl⟩ := h <;>
    exact ⟨isRow_of_encode rfl rfl, fun _ => rfl⟩

section
variable (op : RotOp) (s : State)

@[simp] theorem rotateA_a : (rotateA op s).a = (rotateByte op s.a s.f.c).1 := rfl

@[simp] theorem rotateA_f : (rotateA op s).f =
    s.f.rotA s.policy (rotateByte op s.a s.f.c).1 (rotateByte op s.a s.f.c).2 := rfl

theorem rotateA_onlyAF : OnlyAF s (rotateA op s) := ⟨rfl, rfl, fun _ _ => rfl⟩

theorem rotateA_accesses : Accesses [] s (rotateA op s) := by
  simp [Accesses, rotateA]

end

/-- Settles O38: the four forms are `rotateA`, the byte rotated in exact arithmetic with the short flag tail. -/
theorem accumulatorRotateResult : Obligations.AccumulatorRotateResult := by
  intro op i s hmem
  obtain ⟨hrow, hexec⟩ := accumulatorRotate_row_exec hmem
  refine ⟨hrow, _, hexec s, ?value, ?flags, ?zero, ?sign, ?parity, rotateA_onlyAF op s,
    rotateA_accesses op s⟩
  case value => exact rotateByte_toNat op s.a s.f.c
  case flags =>
    rw [rotateA_f, rotateA_a, ← rotateByte_out op s.a s.f.c]
    exact Flags.rotA_rotateFlags ..
  case zero | sign | parity => simp

end Sys2Proof.Machine
end

section
/-! SUPPORT. The rows of every family (30_encoding.md R70 to R80), and the one table that says which state
transformer each row performs, with the execution rule that all 276 rows share (R81; log 9). -/

namespace Sys2Proof.Machine

open Sys2Proof.Claims

/-! ### Rows (30_encoding.md R72 to R77) -/

section
variable (m : Place8) (op : RotOp) (x : Base16) (q : Ss) (r : StackReg) (cc : Cond) (nn : Word)

theorem isRow_inc8 : IsRow (Instr.inc8 m) (incDecRow 0x04 m) (m.wf .i8080) := by
  cases m with
  | reg r => cases r <;> exact isRow_of_encode rfl rfl
  | indHL | indIX d | indIY d => exact isRow_of_encode rfl rfl

theorem isRow_dec8 : IsRow (Instr.dec8 m) (incDecRow 0x05 m) (m.wf .i8080) := by
  cases m with
  | reg r => cases r <;> exact isRow_of_encode rfl rfl
  | indHL | indIX d | indIY d => exact isRow_of_encode rfl rfl

theorem isRow_rot : IsRow (Instr.rot op m) (rotRow (rotCode op) m) false := by
  cases m with
  | reg r => cases op <;> cases r <;> exact isRow_of_encode rfl rfl
  | indHL | indIX d | indIY d => cases op <;> exact isRow_of_encode rfl rfl

theorem isRow_add16 :
    IsRow (Instr.add16 x q) (baseRow x (BitVec.ofNat 8 (0x09 + 16 * ssCode q))) (x.wf .i8080) := by
  cases x <;> cases q <;> exact isRow_of_encode rfl rfl

theorem isRow_adc16 :
    IsRow (Instr.adc16 q) [0xED#8, BitVec.ofNat 8 (0x4A + 16 * ssCode q)] false := by
  cases q <;> exact isRow_of_encode rfl rfl

theorem isRow_sbc16 :
    IsRow (Instr.sbc16 q) [0xED#8, BitVec.ofNat 8 (0x42 + 16 * ssCode q)] false := by
  cases q <;> exact isRow_of_encode rfl rfl

theorem isRow_jp : IsRow (.jp nn) [0xC3#8, lo8 nn, hi8 nn] true := isRow_of_encode rfl rfl

theorem isRow_jpCond :
    IsRow (Instr.jpCond cc nn) [BitVec.ofNat 8 (0xC2 + 8 * condCode cc), lo8 nn, hi8 nn] true := by
  cases cc <;> exact isRow_of_encode rfl rfl

theorem isRow_call : IsRow (.call nn) [0xCD#8, lo8 nn, hi8 nn] true := isRow_of_encode rfl rfl

theorem isRow_callCond :
    IsRow (Instr.callCond cc nn) [BitVec.ofNat 8 (0xC4 + 8 * condCode cc), lo8 nn, hi8 nn] true := by
  cases cc <;> exact isRow_of_encode rfl rfl

theorem isRow_ret : IsRow .ret [0xC9#8] true := isRow_of_encode rfl rfl

theorem isRow_retCond : IsRow (Instr.retCond cc) [BitVec.ofNat 8 (0xC0 + 8 * condCode cc)] true := by
  cases cc <;> exact isRow_of_encode rfl rfl

theorem isRow_rst (k : Fin 8) : IsRow (Instr.rst k) [BitVec.ofNat 8 (0xC7 + 8 * k.val)] true := by
  fin_cases k <;> exact isRow_of_encode rfl rfl

theorem isRow_push : IsRow (Instr.push r) (stackRow 0xC5 r) (r.wf .i8080) := by
  cases r <;> exact isRow_of_encode rfl rfl

theorem isRow_pop : IsRow (Instr.pop r) (stackRow 0xC1 r) (r.wf .i8080) := by
  cases r <;> exact isRow_of_encode rfl rfl

theorem isRow_exSP : IsRow (Instr.exSP x) (baseRow x 0xE3#8) (x.wf .i8080) := by
  cases x <;> exact isRow_of_encode rfl rfl

theorem isRow_daa : IsRow .daa [0x27#8] true := isRow_of_encode rfl rfl

theorem isRow_halt : IsRow .halt [0x76#8] true := isRow_of_encode rfl rfl

end

/-! ### What each row performs -/

/-- The row `i` is an operation of the rules 41 to 48 on its operands, and `e` is what the operation makes of a
state, with PC already at the byte after the instruction. -/
inductive Performs : Instr → (State → State) → Prop
  | alu (op : AluOp) (src : Src8) : Performs (.alu op src) (aluA op src)
  | inc8 (m : Place8) : Performs (.inc8 m) (incPlace8 m)
  | dec8 (m : Place8) : Performs (.dec8 m) (decPlace8 m)
  | inc16 (q : Pair16) : Performs (.inc16 q) (incPair16 q)
  | dec16 (q : Pair16) : Performs (.dec16 q) (decPair16 q)
  | rotA {op : RotOp} {i : Instr} (h : (op, i) ∈ accumulatorRotates) : Performs i (rotateA op)
  | rot (op : RotOp) (m : Place8) : Performs (.rot op m) (rotatePlace op m)
  | daa : Performs .daa decimalAdjust
  | add16 (x : Base16) (q : Ss) : Performs (.add16 x q) (addPair x q)
  | adc16 (q : Ss) : Performs (.adc16 q) (adcHL q)
  | sbc16 (q : Ss) : Performs (.sbc16 q) (sbcHL q)
  | jp (nn : Word) : Performs (.jp nn) (jumpTo nn)
  | jpCond (cc : Cond) (nn : Word) : Performs (.jpCond cc nn) (jumpIf cc nn)
  | call (nn : Word) : Performs (.call nn) (callTo nn)
  | callCond (cc : Cond) (nn : Word) : Performs (.callCond cc nn) (callIf cc nn)
  | ret : Performs .ret returnPop
  | retCond (cc : Cond) : Performs (.retCond cc) (returnIf cc)
  | rst (k : Fin 8) : Performs (.rst k) (restart k)
  | push (r : StackReg) : Performs (.push r) (pushReg r)
  | pop (r : StackReg) : Performs (.pop r) (popReg r)
  | exSP (x : Base16) : Performs (.exSP x) (exchangeTop x)
  | halt : Performs .halt haltBlock

/-- The execution rule of a row that performs `e`: a row that only `Z80` has is guarded, and its guard names its
first byte and its length (log 9). -/
def GuardedExec (i : Instr) (e : State → State) : Prop :=
  ∀ s, exec i s =
    if i.z80Only then onZ80 ((encode i).headD 0#8) (encode i).length e s else .next (e s)

/-- Every row executes as the table says. -/
theorem Performs.guardedExec {i : Instr} {e : State → State} (h : Performs i e) : GuardedExec i e := by
  intro s
  cases h with
  | alu op src =>
    cases src with
    | imm n => cases op <;> rfl
    | loc m =>
      cases m with
      | reg r => cases op <;> cases r <;> rfl
      | indHL | indIX d | indIY d => cases op <;> rfl
  | rot op m =>
    cases m with
    | reg r => cases op <;> cases r <;> rfl
    | indHL | indIX d | indIY d => cases op <;> rfl
  | inc8 m | dec8 m =>
    cases m with
    | reg r => cases r <;> rfl
    | indHL | indIX d | indIY d => rfl
  | rotA hmem =>
    obtain ⟨⟨hencode, hwf⟩, hexec⟩ := accumulatorRotate_row_exec hmem
    have hz80Only : i.z80Only = false := by simpa [Instr.wf] using hwf .i8080
    simp [hz80Only, hexec]
  | inc16 q | dec16 q => cases q <;> rfl
  | add16 x q => cases x <;> cases q <;> rfl
  | adc16 q | sbc16 q => cases q <;> rfl
  | jpCond cc nn | callCond cc nn | retCond cc => cases cc <;> rfl
  | rst k => fin_cases k <;> rfl
  | push r | pop r => cases r <;> rfl
  | exSP x => cases x <;> rfl
  | daa | jp nn | call nn | ret | halt => rfl

/-- Where the policy has the row, it performs its operation (30_encoding.md R81). -/
theorem Performs.exec_of_wf {i : Instr} {e : State → State} (h : Performs i e) {s : State}
    (hwf : i.wf s.policy = true) : exec i s = .next (e s) := by
  rw [h.guardedExec s]
  split
  · next hz80Only =>
    cases hp : s.policy with
    | z80 => exact onZ80_z80 _ _ _ hp
    | i8080 => simp [Instr.wf, hp, hz80Only] at hwf
  · rfl

/-- Where the policy does not have the row, it takes the decode error at its first byte (log 9). -/
theorem Performs.exec_of_not_wf {i : Instr} {e : State → State} (h : Performs i e) {s : State}
    (hwf : i.wf s.policy = false) :
    exec i s = .next
      (s.takeDecodeError (s.pc - BitVec.ofNat 16 (encode i).length) ((encode i).headD 0#8)) := by
  cases hp : s.policy with
  | z80 => simp [Instr.wf, hp] at hwf
  | i8080 =>
    have hz80Only : i.z80Only = true := by simpa [Instr.wf, hp] using hwf
    rw [h.guardedExec s, if_pos hz80Only, onZ80_spec, hp]
    rfl

end Sys2Proof.Machine
end

section
/-! SUPPORT. Decoding and encoding (30_encoding.md): every encoding decodes to its row, and, walking through the
layouts of R71, every row that the decoder gives is an operation with exactly the bytes consumed. -/

namespace Sys2Proof.Machine

open Sys2Proof.Claims

/-! ### From a row to its bytes and back (R79, R80) -/

/-- Under `Z80` every row decodes from its encoding, whatever follows. -/
theorem decode_encode_z80 (i : Instr) (rest : List Byte) :
    decode .z80 (encode i ++ rest) = .ok (i, rest) := by
  cases i with
  | jp nn | jpNZ nn | jpZ nn | jpNC nn | jpC nn | jpPO nn | jpPE nn | jpP nn | jpM nn
  | call nn | callNZ nn | callZ nn | callNC nn | callC nn | callPO nn | callPE nn | callP nn | callM nn =>
    rw [← wordOf_hi8_lo8 nn]
    simp only [encode, hi8_wordOf, lo8_wordOf]
    rfl
  | _ => rfl

/-- The four bytes that begin a row only `Z80` has (R70). -/
def leadBytes : List Byte := [0xCB#8, 0xDD#8, 0xED#8, 0xFD#8]

/-- Without one of the four bytes in front, the policies decode alike (R81). -/
theorem decode_i8080_of_not_leadByte {b : Byte} (h : b ∉ leadBytes) (rest : List Byte) :
    decode .i8080 (b :: rest) = decode .z80 (b :: rest) := by
  simp only [leadBytes, List.mem_cons, List.not_mem_nil, not_or] at h
  obtain ⟨hcb, hdd, hed, hfd, -⟩ := h
  simp [decode, hcb, hdd, hed, hfd]

/-- The rows that only `Z80` has are those that begin with one of the four bytes. -/
theorem z80Only_eq_leadByte (i : Instr) : i.z80Only = decide ((encode i).headD 0#8 ∈ leadBytes) := by
  cases i <;> rfl

theorem encode_eq_cons (i : Instr) : encode i = (encode i).headD 0#8 :: (encode i).tail := by
  cases i <;> rfl

/-- Settles O1: under `Z80` row by row; a row of `I8080` begins with none of the four bytes that the policies
decode differently. -/
theorem decodeOfEncodeIsTheInstruction : Obligations.DecodeOfEncodeIsTheInstruction := by
  intro p i rest hwf
  cases p with
  | z80 => exact decode_encode_z80 i rest
  | i8080 =>
    have hlead : (encode i).headD 0#8 ∉ leadBytes := by simpa [Instr.wf, z80Only_eq_leadByte] using hwf
    rw [← decode_encode_z80 i rest, encode_eq_cons i]
    exact decode_i8080_of_not_leadByte hlead _

/-- Settles O3: the bytes determine the row, because decoding gives it back. -/
theorem atMostOneRowMatches : Obligations.AtMostOneRowMatches := by
  intro i j r r' hbytes
  have hi := decode_encode_z80 i r
  rw [hbytes, decode_encode_z80] at hi
  simpa [eq_comm] using hi

/-- Settles O5: each word is the encoding of its row, and no layout begins with 00. -/
theorem publishedWordsDecode : Obligations.PublishedWordsDecode :=
  ⟨rfl, rfl, rfl, rfl, rfl, rfl, rfl, rfl, rfl⟩

/-! ### Operations (R71) -/

/-- `i` is the row with these bytes (`both` as in `IsRow`), and one of the operations of the rules. -/
def IsOperation (i : Instr) (bytes : List Byte) (both : Bool) : Prop :=
  IsRow i bytes both ∧ ∃ e, Performs i e

/-- Every row that may follow the first byte `b` is an operation with the bytes of its format. -/
def OpRowOperations (b : Byte) : OpRow → Prop
  | .op i => IsOperation i [b] true
  | .opN mk => ∀ n, IsOperation (mk n) [b, n] true
  | .opNN mk => ∀ nn, IsOperation (mk nn) [b, lo8 nn, hi8 nn] true

/-- Every row that may follow the bytes `k`, `b1` is an operation with the bytes of its format. -/
def XyRowOperations (k : Index) (b1 : Byte) : XyRow → Prop
  | .op i => IsOperation i [k.byte, b1] false
  | .opD mk => ∀ d, IsOperation (mk d) [k.byte, b1, d] false

/-! ### The fields of a byte determine it (R71) -/

theorem byte_eq_of_fields_xyz (b : Byte) :
    b = BitVec.ofNat 8 (64 * (fieldX b).val + 8 * (fieldY b).val + (fieldZ b).val) := by
  apply BitVec.eq_of_toNat_eq
  simp only [fieldX, fieldY, fieldZ, Fin.ofNat, BitVec.toNat_ofNat]
  omega

theorem fieldY_eq (b : Byte) : (fieldY b).val = 2 * (fieldP b).val + (fieldQ b).val := by
  simp only [fieldY, fieldP, fieldQ, Fin.ofNat]
  omega

/-- `y` read as the pair field and the bit below it. -/
theorem byte_eq_of_fields_xpqz (b : Byte) :
    b = BitVec.ofNat 8
      (64 * (fieldX b).val + 16 * (fieldP b).val + 8 * (fieldQ b).val + (fieldZ b).val) := by
  have hb := byte_eq_of_fields_xyz b
  rw [fieldY_eq] at hb
  exact hb.trans (by congr 1; omega)

/-! ### The field tables (R72 to R76) -/

section
variable (y : Fin 8) (p : Fin 4)

theorem condCode_condField : condCode (condField y) = y.val := by fin_cases y <;> rfl

theorem aluCode_aluField : aluCode (aluField y) = y.val := by fin_cases y <;> rfl

theorem rotCode_rotField : rotCode (rotField y) = y.val := by fin_cases y <;> rfl

theorem ssCode_ssField : ssCode (ssField p) = p.val := by fin_cases p <;> rfl

theorem placeField_wf : (placeField y).wf .i8080 = true := by fin_cases y <;> rfl

theorem pairField_wf : (pairField p).wf .i8080 = true := by fin_cases p <;> rfl

theorem stackField_wf : (stackField p).wf .i8080 = true := by fin_cases p <;> rfl

theorem aluRow_placeField (op : AluOp) :
    aluRow (aluCode op) (.loc (placeField y)) = [BitVec.ofNat 8 (0x80 + 8 * aluCode op + y.val)] := by
  cases op <;> fin_cases y <;> rfl

theorem incDecRow_placeField (base : Nat) :
    incDecRow base (placeField y) = [BitVec.ofNat 8 (base + 8 * y.val)] := by
  fin_cases y <;> rfl

theorem rotRow_placeField (k : Nat) :
    rotRow k (placeField y) = [0xCB#8, BitVec.ofNat 8 (8 * k + y.val)] := by
  fin_cases y <;> rfl

theorem incDecPairRow_pairField (base : Nat) :
    incDecPairRow base (pairField p) = [BitVec.ofNat 8 (base + 0x10 * p.val)] := by
  fin_cases p <;> rfl

theorem stackRow_stackField (base : Nat) :
    stackRow base (stackField p) = [BitVec.ofNat 8 (base + 0x10 * p.val)] := by
  fin_cases p <;> rfl

end

/-! ### The layouts (R71) -/

section
variable {b : Byte} {n : Nat} {bs : List Byte}

/-- A byte that a layout writes is the one whose fields `x`, `y`, `z` it names. -/
theorem cons_eq_of_xyz (x : Fin 4) (z : Fin 8) (hx : fieldX b = x) (hz : fieldZ b = z)
    (h : n = 64 * x.val + 8 * (fieldY b).val + z.val) : BitVec.ofNat 8 n :: bs = b :: bs := by
  rw [h, ← hx, ← hz, ← byte_eq_of_fields_xyz]

/-- A byte that a layout writes is the one whose fields `x`, `p`, `q`, `z` it names. -/
theorem cons_eq_of_xpqz (x : Fin 4) (q : Fin 2) (z : Fin 8) (hx : fieldX b = x) (hq : fieldQ b = q)
    (hz : fieldZ b = z) (h : n = 64 * x.val + 16 * (fieldP b).val + 8 * q.val + z.val) :
    BitVec.ofNat 8 n :: bs = b :: bs := by
  rw [h, ← hx, ← hq, ← hz, ← byte_eq_of_fields_xpqz]

/-- The same after another byte, with field `y` given too. -/
theorem cons_cons_eq_of_xyz {b0 : Byte} (x : Fin 4) (y z : Fin 8) (hx : fieldX b = x)
    (hy : fieldY b = y) (hz : fieldZ b = z) (h : n = 64 * x.val + 8 * y.val + z.val) :
    b0 :: BitVec.ofNat 8 n :: bs = b0 :: b :: bs :=
  congrArg (b0 :: ·) (cons_eq_of_xyz x z hx hz (by rw [hy]; exact h))

/-- A row whose bytes are known under another name. -/
theorem isOperation_of_row {i : Instr} {bs' : List Byte} {both both' : Bool} {e : State → State}
    (hrow : IsRow i bs both) (he : Performs i e) (hbs : bs = bs') (hboth : both = both') :
    IsOperation i bs' both' :=
  ⟨hbs ▸ hboth ▸ hrow, e, he⟩

end

/-- The four rows of RLCA to RRA: field y is the operation. -/
theorem accumulatorRotate_operation {b : Byte} {op : RotOp} {i : Instr}
    (hmem : (op, i) ∈ accumulatorRotates) (hx : fieldX b = 0) (hz : fieldZ b = 7)
    (hy : (fieldY b).val = rotCode op) : IsOperation i [b] true := by
  refine isOperation_of_row (accumulatorRotate_row_exec hmem).1 (.rotA hmem) ?_ rfl
  exact cons_eq_of_xyz 0 7 hx hz (by omega)

/-- The unprefixed layouts of R71, one by one. -/
theorem opRow_operations {b : Byte} {r : OpRow} (h : opRow b = some r) : OpRowOperations b r := by
  unfold opRow at h
  split at h
  · next hx hz =>
    split at h
    · next hq =>
      cases h
      refine isOperation_of_row (isRow_add16 .hl _) (.add16 .hl _) ?_ rfl
      exact cons_eq_of_xpqz 0 1 1 hx hq hz (by rw [ssCode_ssField]; simp; omega)
    · cases h
  · next hx hz =>
    cases h
    by_cases hq : fieldQ b = 0
    · rw [if_pos hq]
      refine isOperation_of_row (isRow_inc16 _) (.inc16 _) ?_ (pairField_wf _)
      exact (incDecPairRow_pairField _ _).trans (cons_eq_of_xpqz 0 0 3 hx hq hz (by omega))
    · rw [if_neg hq]
      refine isOperation_of_row (isRow_dec16 _) (.dec16 _) ?_ (pairField_wf _)
      exact (incDecPairRow_pairField _ _).trans (cons_eq_of_xpqz 0 1 3 hx (by omega) hz (by omega))
  · next hx hz =>
    cases h
    refine isOperation_of_row (isRow_inc8 _) (.inc8 _) ?_ (placeField_wf _)
    exact (incDecRow_placeField _ _).trans (cons_eq_of_xyz 0 4 hx hz (by omega))
  · next hx hz =>
    cases h
    refine isOperation_of_row (isRow_dec8 _) (.dec8 _) ?_ (placeField_wf _)
    exact (incDecRow_placeField _ _).trans (cons_eq_of_xyz 0 5 hx hz (by omega))
  · next hx hz =>
    split at h
    · next hy =>
      cases h
      exact accumulatorRotate_operation (op := .rlc) (by decide) hx hz (by rw [hy]; rfl)
    · next hy =>
      cases h
      exact accumulatorRotate_operation (op := .rrc) (by decide) hx hz (by rw [hy]; rfl)
    · next hy =>
      cases h
      exact accumulatorRotate_operation (op := .rl) (by decide) hx hz (by rw [hy]; rfl)
    · next hy =>
      cases h
      exact accumulatorRotate_operation (op := .rr) (by decide) hx hz (by rw [hy]; rfl)
    · next hy =>
      cases h
      exact isOperation_of_row isRow_daa .daa (cons_eq_of_xyz 0 7 hx hz (by rw [hy]; rfl)) rfl
    · cases h
  · next hx hz =>
    split at h
    · next hy =>
      cases h
      exact isOperation_of_row isRow_halt .halt (cons_eq_of_xyz 1 6 hx hz (by rw [hy]; rfl)) rfl
    · cases h
  · next hx =>
    cases h
    refine isOperation_of_row (isRow_alu _ _) (.alu _ _) ?_ (placeField_wf _)
    refine (aluRow_placeField _ _).trans (cons_eq_of_xyz 2 _ hx rfl ?_)
    rw [aluCode_aluField]
    omega
  · next hx hz =>
    cases h
    refine isOperation_of_row (isRow_retCond _) (.retCond _) ?_ rfl
    exact cons_eq_of_xyz 3 0 hx hz (by rw [condCode_condField]; omega)
  · next hx hz =>
    split at h
    · next hq =>
      cases h
      refine isOperation_of_row (isRow_pop _) (.pop _) ?_ (stackField_wf _)
      exact (stackRow_stackField _ _).trans (cons_eq_of_xpqz 3 0 1 hx hq hz (by omega))
    · next hq =>
      split at h
      · next hp =>
        cases h
        refine isOperation_of_row isRow_ret .ret ?_ rfl
        exact cons_eq_of_xpqz 3 1 1 hx (by omega) hz (by rw [hp]; rfl)
      · cases h
  · next hx hz =>
    cases h
    refine fun nn => isOperation_of_row (isRow_jpCond _ nn) (.jpCond _ nn) ?_ rfl
    exact cons_eq_of_xyz 3 2 hx hz (by rw [condCode_condField]; omega)
  · next hx hz =>
    split at h
    · next hy =>
      cases h
      exact fun nn =>
        isOperation_of_row (isRow_jp nn) (.jp nn) (cons_eq_of_xyz 3 3 hx hz (by rw [hy]; rfl)) rfl
    · next hy =>
      cases h
      exact isOperation_of_row (isRow_exSP .hl) (.exSP .hl)
        (cons_eq_of_xyz 3 3 hx hz (by rw [hy]; rfl)) rfl
    · cases h
  · next hx hz =>
    cases h
    refine fun nn => isOperation_of_row (isRow_callCond _ nn) (.callCond _ nn) ?_ rfl
    exact cons_eq_of_xyz 3 4 hx hz (by rw [condCode_condField]; omega)
  · next hx hz =>
    split at h
    · next hq =>
      cases h
      refine isOperation_of_row (isRow_push _) (.push _) ?_ (stackField_wf _)
      exact (stackRow_stackField _ _).trans (cons_eq_of_xpqz 3 0 5 hx hq hz (by omega))
    · next hq =>
      split at h
      · next hp =>
        cases h
        refine fun nn => isOperation_of_row (isRow_call nn) (.call nn) ?_ rfl
        exact cons_eq_of_xpqz 3 1 5 hx (by omega) hz (by rw [hp]; rfl)
      · cases h
  · next hx hz =>
    cases h
    refine fun n => isOperation_of_row (isRow_alu _ (.imm n)) (.alu _ _) ?_ rfl
    exact cons_eq_of_xyz 3 6 hx hz (by rw [aluCode_aluField]; omega)
  · next hx hz =>
    cases h
    exact isOperation_of_row (isRow_rst _) (.rst _) (cons_eq_of_xyz 3 7 hx hz (by omega)) rfl
  · cases h

section
variable (k : Index) (b : Byte) (bs : List Byte) (d : Byte)

/-- The layouts after DD and FD write the byte that names the index register in front. -/
theorem baseRow_index : baseRow k.base b = [k.byte, b] := by cases k <;> rfl

theorem incDecPairRow_index (base : Nat) :
    incDecPairRow base k.pair = [k.byte, BitVec.ofNat 8 (base + 0x20)] := by cases k <;> rfl

theorem incDecRow_index (base : Nat) :
    incDecRow base (k.ind d) = [k.byte, BitVec.ofNat 8 (base + 0x30), d] := by cases k <;> rfl

theorem stackRow_index (base : Nat) :
    stackRow base k.stack = [k.byte, BitVec.ofNat 8 (base + 0x20)] := by cases k <;> rfl

theorem aluRow_index (o : Nat) :
    aluRow o (.loc (k.ind d)) = [k.byte, BitVec.ofNat 8 (0x86 + 8 * o), d] := by cases k <;> rfl

theorem rotRow_index (o : Nat) :
    rotRow o (k.ind d) = [k.byte, 0xCB#8, d, BitVec.ofNat 8 (8 * o + 6)] := by cases k <;> rfl

end

/-- The layouts of R71 after DD and FD, one by one. -/
theorem xyRow_operations {k : Index} {b : Byte} {r : XyRow} (h : xyRow k b = some r) :
    XyRowOperations k b r := by
  unfold xyRow at h
  split at h
  · next hx hy hz =>
    cases h
    refine isOperation_of_row (isRow_inc16 _) (.inc16 _) ?_ (by cases k <;> rfl)
    exact (incDecPairRow_index _ _).trans (cons_cons_eq_of_xyz 0 4 3 hx hy hz rfl)
  · next hx hy hz =>
    cases h
    refine isOperation_of_row (isRow_dec16 _) (.dec16 _) ?_ (by cases k <;> rfl)
    exact (incDecPairRow_index _ _).trans (cons_cons_eq_of_xyz 0 5 3 hx hy hz rfl)
  · next hx hy hz =>
    cases h
    refine fun d => isOperation_of_row (isRow_inc8 _) (.inc8 _) ?_ (by cases k <;> rfl)
    exact (incDecRow_index _ _ _).trans (cons_cons_eq_of_xyz 0 6 4 hx hy hz rfl)
  · next hx hy hz =>
    cases h
    refine fun d => isOperation_of_row (isRow_dec8 _) (.dec8 _) ?_ (by cases k <;> rfl)
    exact (incDecRow_index _ _ _).trans (cons_cons_eq_of_xyz 0 6 5 hx hy hz rfl)
  · next hx hz =>
    split at h
    · next hq =>
      cases h
      refine isOperation_of_row (isRow_add16 _ _) (.add16 _ _) ?_ (by cases k <;> rfl)
      refine (baseRow_index _ _).trans (congrArg (k.byte :: ·) ?_)
      exact cons_eq_of_xpqz 0 1 1 hx hq hz (by rw [ssCode_ssField]; simp; omega)
    · cases h
  · next hx hz =>
    cases h
    refine fun d => isOperation_of_row (isRow_alu _ _) (.alu _ _) ?_ (by cases k <;> rfl)
    refine (aluRow_index _ _ _).trans (cons_cons_eq_of_xyz 2 _ 6 hx rfl hz ?_)
    rw [aluCode_aluField]
    omega
  · next hx hy hz =>
    cases h
    refine isOperation_of_row (isRow_pop _) (.pop _) ?_ (by cases k <;> rfl)
    exact (stackRow_index _ _).trans (cons_cons_eq_of_xyz 3 4 1 hx hy hz rfl)
  · next hx hy hz =>
    cases h
    refine isOperation_of_row (isRow_exSP _) (.exSP _) ?_ (by cases k <;> rfl)
    exact (baseRow_index _ _).trans (cons_cons_eq_of_xyz 3 4 3 hx hy hz rfl)
  · next hx hy hz =>
    cases h
    refine isOperation_of_row (isRow_push _) (.push _) ?_ (by cases k <;> rfl)
    exact (stackRow_index _ _).trans (cons_cons_eq_of_xyz 3 4 5 hx hy hz rfl)
  · cases h

/-! ### The decoder (R79, R80) -/

/-- What the decoder accepts: the bytes of an operation that the policy has, then the bytes it gives back. -/
def Decoded (p : Policy) (bytes : List Byte) (x : Instr × List Byte) : Prop :=
  ∃ bs both, IsOperation x.1 bs both ∧ (both || p == .z80) = true ∧ bytes = bs ++ x.2

theorem decodeOp_decoded {p : Policy} {b : Byte} {rest : List Byte} {x : Instr × List Byte}
    (h : decodeOp b rest = .ok x) : Decoded p (b :: rest) x := by
  unfold decodeOp at h
  split at h
  · next hrow => cases h; exact ⟨_, true, opRow_operations hrow, rfl, rfl⟩
  · next hrow => cases h; exact ⟨_, true, opRow_operations hrow _, rfl, rfl⟩
  · next hrow =>
    cases h
    refine ⟨_, true, opRow_operations hrow _, rfl, ?_⟩
    rw [hi8_wordOf, lo8_wordOf]
    rfl
  · cases h
  · cases h

theorem decodeCB_decoded {bytes : List Byte} {x : Instr × List Byte} (h : decodeCB bytes = .ok x) :
    Decoded .z80 (0xCB#8 :: bytes) x := by
  unfold decodeCB at h
  split at h
  · cases h
  · next b r =>
    split at h
    · next hx =>
      cases h
      refine ⟨[0xCB#8, b], false, isOperation_of_row (isRow_rot _ _) (.rot _ _) ?_ rfl, rfl, rfl⟩
      refine (rotRow_placeField _ _).trans (congrArg (0xCB#8 :: ·) (cons_eq_of_xyz 0 _ hx rfl ?_))
      rw [rotCode_rotField]
      omega
    · cases h

theorem decodeED_decoded {bytes : List Byte} {x : Instr × List Byte} (h : decodeED bytes = .ok x) :
    Decoded .z80 (0xED#8 :: bytes) x := by
  unfold decodeED at h
  split at h
  · cases h
  · next b r =>
    split at h
    · next hxz =>
      obtain ⟨hx, hz⟩ := hxz
      cases h
      refine ⟨[0xED#8, b], false, ?_, rfl, rfl⟩
      by_cases hq : fieldQ b = 0
      · rw [if_pos hq]
        refine isOperation_of_row (isRow_sbc16 _) (.sbc16 _) (congrArg (0xED#8 :: ·) ?_) rfl
        exact cons_eq_of_xpqz 1 0 2 hx hq hz (by rw [ssCode_ssField]; simp; omega)
      · rw [if_neg hq]
        refine isOperation_of_row (isRow_adc16 _) (.adc16 _) (congrArg (0xED#8 :: ·) ?_) rfl
        exact cons_eq_of_xpqz 1 1 2 hx (by omega) hz (by rw [ssCode_ssField]; simp; omega)
    · cases h

theorem decodeXY_decoded {k : Index} {bytes : List Byte} {x : Instr × List Byte}
    (h : decodeXY k bytes = .ok x) : Decoded .z80 (k.byte :: bytes) x := by
  unfold decodeXY at h
  split at h
  · cases h
  · next b1 rest =>
    split at h
    · next hcb =>
      subst hcb
      split at h
      · next d b3 r =>
        split at h
        · next hxz =>
          obtain ⟨hx, hz⟩ := hxz
          cases h
          refine ⟨[k.byte, 0xCB#8, d, b3], false,
            isOperation_of_row (isRow_rot _ _) (.rot _ _) ?_ rfl, rfl, rfl⟩
          refine (rotRow_index _ _ _).trans (congrArg ([k.byte, 0xCB#8, d] ++ ·) ?_)
          exact cons_eq_of_xyz 0 6 hx hz (by rw [rotCode_rotField]; simp)
        · cases h
      · cases h
    · split at h
      · next hrow => cases h; exact ⟨_, false, xyRow_operations hrow, rfl, rfl⟩
      · next hrow => cases h; exact ⟨_, false, xyRow_operations hrow _, rfl, rfl⟩
      · cases h
      · cases h

theorem decode_decoded {p : Policy} {bytes : List Byte} {x : Instr × List Byte}
    (h : decode p bytes = .ok x) : Decoded p bytes x := by
  unfold decode at h
  split at h
  · cases h
  · split at h
    · next hp => obtain ⟨rfl, rfl⟩ := hp; exact decodeCB_decoded h
    · split at h
      · next hp => obtain ⟨rfl, rfl⟩ := hp; exact decodeED_decoded h
      · split at h
        · next hp => obtain ⟨rfl, rfl⟩ := hp; exact decodeXY_decoded (k := .ix) h
        · split at h
          · next hp => obtain ⟨rfl, rfl⟩ := hp; exact decodeXY_decoded (k := .iy) h
          · exact decodeOp_decoded h

/-- Settles O2: what the decoder accepts is an operation with exactly the bytes consumed. -/
theorem decodedBytesAreTheEncoding : Obligations.DecodedBytesAreTheEncoding := by
  intro p bytes i rest h
  obtain ⟨bs, both, ⟨⟨hencode, hwf⟩, -⟩, hboth, hbytes⟩ := decode_decoded h
  exact ⟨(hwf p).trans hboth, hencode ▸ hbytes⟩

/-- The decoder gives operations only, and it gives every row: each of the 276 rows performs an operation. -/
theorem exists_performs (i : Instr) : ∃ e, Performs i e := by
  obtain ⟨bs, both, ⟨-, hperforms⟩, -⟩ := decode_decoded (decode_encode_z80 i [])
  exact hperforms

/-! ### The policies (R70, R81) -/

/-- Each format starts with one of the four bytes or does not (R70), which is what the policies differ in. -/
theorem z80Only_eq_format_prefixed (i : Instr) : i.z80Only = i.format.prefixed := by
  cases i <;> rfl

theorem Format.prefixed_eq_false_iff (k : Format) :
    k.prefixed = false ↔ k = .op ∨ k = .opN ∨ k = .opNN := by
  cases k <;> decide

/-- None of the four bytes is an unprefixed row. -/
theorem decode_i8080_of_leadByte {b : Byte} (h : b ∈ leadBytes) (rest : List Byte) :
    decode .i8080 (b :: rest) = .error (.unassignedOp b) := by
  simp only [leadBytes, List.mem_cons, List.not_mem_nil, or_false] at h
  obtain rfl | rfl | rfl | rfl := h <;> rfl

/-- Settles O4. -/
theorem policySubsets : Obligations.PolicySubsets := by
  refine ⟨fun i => rfl, fun i => ?_, fun b rest h => ?_⟩
  · rw [← Format.prefixed_eq_false_iff, ← z80Only_eq_format_prefixed]
    simp [Instr.wf]
  · exact decode_i8080_of_leadByte (by simpa [leadBytes] using h) rest

end Sys2Proof.Machine
end

section
/-! SUPPORT. Everything an instruction can do to a state, said once (`exec_cases`), and from it who writes what
and what no instruction changes (10_state.md R23 to R34, 20_memory.md R55, 60_exceptions.md R210). -/

namespace Sys2Proof.Machine

open Sys2Proof.Claims

/-! ### The flags that `I8080` does not have (R26, R99, R100) -/

/-- N, F5 and F3 stay as they were where the policy does not have them. -/
def KeepsAbsentFlags (p : Policy) (f g : Flags) : Prop :=
  p = .i8080 → g.n = f.n ∧ g.f5 = f.f5 ∧ g.f3 = f.f3

section
variable (p : Policy) (f : Flags)

theorem aluStep_keepsAbsentFlags (op : AluOp) (a v : Byte) :
    KeepsAbsentFlags p f (aluStep op p a v f).2 := by
  rintro rfl
  cases op <;> exact ⟨rfl, rfl, rfl⟩

theorem aluInc_keepsAbsentFlags (m : Byte) : KeepsAbsentFlags p f (aluInc p m f).2 := by
  rintro rfl; exact ⟨rfl, rfl, rfl⟩

theorem aluDec_keepsAbsentFlags (m : Byte) : KeepsAbsentFlags p f (aluDec p m f).2 := by
  rintro rfl; exact ⟨rfl, rfl, rfl⟩

theorem rotA_keepsAbsentFlags (v : Byte) (out : Bool) : KeepsAbsentFlags p f (f.rotA p v out) := by
  rintro rfl; exact ⟨rfl, rfl, rfl⟩

theorem rot_keepsAbsentFlags (v : Byte) (out : Bool) : KeepsAbsentFlags p f (f.rot p v out) := by
  rintro rfl; exact ⟨rfl, rfl, rfl⟩

theorem aluDaa_keepsAbsentFlags (a : Byte) : KeepsAbsentFlags p f (aluDaa p a f).2 := by
  rintro rfl; exact ⟨rfl, rfl, rfl⟩

theorem aluAddPair_keepsAbsentFlags (a b : Word) : KeepsAbsentFlags p f (aluAddPair p a b f).2 := by
  rintro rfl; exact ⟨rfl, rfl, rfl⟩

theorem aluAdd_keepsAbsentFlags {w : Nat} (a b : BitVec w) (cin : Bool) :
    KeepsAbsentFlags p f (aluAdd p a b cin f).2 := by
  rintro rfl; exact ⟨rfl, rfl, rfl⟩

theorem aluSub_keepsAbsentFlags {w : Nat} (a b : BitVec w) (bin : Bool) :
    KeepsAbsentFlags p f (aluSub p a b bin f).2 := by
  rintro rfl; exact ⟨rfl, rfl, rfl⟩

theorem ofByte_keepsAbsentFlags (b : Byte) : KeepsAbsentFlags p f (f.ofByte p b) := by
  rintro rfl; exact ⟨rfl, rfl, rfl⟩

end

/-! ### What an instruction can do -/

/-- The states that the instruction `i` can make of `s`, before its count is output: one constructor per shape
of the operations of 41 to 48, with the values they compute left open. -/
inductive Change (i : Instr) (s : State) : State → Prop
  /-- The 8-bit ALU family; the rotates of A and DAA, whose operand is A. -/
  | accumulator (src : Src8) (a : Byte) (f : Flags) (hf : KeepsAbsentFlags s.policy s.f f) :
      Change i s { (s.readSrc src).2 with a := a, f := f }
  | place (m : Place8) (v : Byte) (f : Flags) (hi : i = .inc8 m ∨ i = .dec8 m ∨ ∃ op, i = .rot op m)
      (hf : KeepsAbsentFlags s.policy s.f f) :
      Change i s (({ (s.readPlace m).2 with f := f } : State).writePlace m v)
  | pair (q : Pair16) (w : Word) (hi : i = .inc16 q ∨ i = .dec16 q) : Change i s (s.setPair q w)
  | base (x : Base16) (w : Word) (f : Flags) (hi : x = .hl ∨ ∃ q, i = .add16 x q)
      (hf : KeepsAbsentFlags s.policy s.f f) : Change i s (({ s with f := f } : State).setBase x w)
  | jump (nn : Word) (hi : IsJump i) : Change i s { s with pc := nn }
  /-- A conditional transfer that is not taken. -/
  | nothing : Change i s s
  | call (nn : Word) (hi : IsCall i) : Change i s (s.pushJump nn)
  | ret (hi : IsReturn i) : Change i s s.popPC
  | push (r : StackReg) (w : Word) (hi : i = .push r) : Change i s (s.push16 w)
  | pop (r : StackReg) (w : Word) (hi : i = .pop r) : Change i s (s.pop16.2.setStackReg r w)
  | exchange (x : Base16) (w : Word) (lo hi : Byte) (hx : i = .exSP x) :
      Change i s ((((s.memRead2 s.sp).2.memWrite s.sp lo).memWrite (s.sp + 1#16) hi).setBase x w)
  | halt (hi : i = .halt) : Change i s { s with halted := true }

/-- The range of the counts (70 R234). -/
def CountInRange (k : Nat) : Prop := 4 ≤ k ∧ k ≤ 23

section
variable (p : Policy) (src : Src8) (m : Place8) (q : Pair16) (x : Base16) (r : StackReg) (taken : Bool)

theorem tAlu_inRange : CountInRange (tAlu src) := by
  cases src with
  | imm n => simp [CountInRange, tAlu]
  | loc m => cases m <;> simp [CountInRange, tAlu]

theorem tIncDec_inRange : CountInRange (tIncDec p m) := by
  cases p <;> cases m <;> simp [CountInRange, tIncDec, perPolicy]

theorem tRotate_inRange : CountInRange (tRotate m) := by
  cases m <;> simp [CountInRange, tRotate]

theorem tIncDecPair_inRange : CountInRange (tIncDecPair p q) := by
  cases p <;> cases q <;> simp [CountInRange, tIncDecPair, perPolicy]

theorem tAddPair_inRange : CountInRange (tAddPair p x) := by
  cases p <;> cases x <;> simp [CountInRange, tAddPair, perPolicy]

theorem tExchange_inRange : CountInRange (tExchange p x) := by
  cases p <;> cases x <;> simp [CountInRange, tExchange, perPolicy]

theorem tPush_inRange : CountInRange (tPush r) := by cases r <;> simp [CountInRange, tPush]

theorem tPop_inRange : CountInRange (tPop r) := by cases r <;> simp [CountInRange, tPop]

theorem tCallIf_inRange : CountInRange (tCallIf p taken) := by
  cases p <;> cases taken <;> simp [CountInRange, tCallIf, perPolicy]

theorem tReturnIf_inRange : CountInRange (tReturnIf taken) := by
  cases taken <;> simp [CountInRange, tReturnIf]

theorem tHalt_inRange : CountInRange (tHalt p) := by cases p <;> simp [CountInRange, tHalt, perPolicy]

theorem fixedCounts_inRange : ∀ k ∈ [tRotateA, tDaa, tCarryPair, tJump, tCall, tReturn, tRestart],
    CountInRange k := by
  unfold CountInRange; decide

end

/-- What `i` makes of `s`, its count among the outputs. -/
def Charged (i : Instr) (s t : State) : Prop :=
  ∃ u k, Change i s u ∧ CountInRange k ∧ t = u.charge k

theorem Change.charged {i : Instr} {s u : State} {k : Nat} (h : Change i s u) (hk : CountInRange k) :
    Charged i s (u.charge k) :=
  ⟨u, k, h, hk, rfl⟩

/-- A prefixed rotate writes the operand before the flags, which are no part of it. -/
theorem rotatePlace_eq (op : RotOp) (m : Place8) (s : State) :
    let v := rotateByte op (s.placeValue m) s.f.c
    rotatePlace op m s =
      ((({ (s.readPlace m).2 with f := s.f.rot s.policy v.1 v.2 } : State).writePlace m v.1).charge
        (tRotate m)) := by
  cases m with
  | reg r => cases r <;> rfl
  | indHL | indIX d | indIY d => rfl

/-- Everything an operation can do. -/
theorem Performs.charged {i : Instr} {e : State → State} (h : Performs i e) (s : State) :
    Charged i s (e s) := by
  have hfixed := fixedCounts_inRange
  cases h with
  | alu op src =>
    exact (Change.accumulator src _ _ (aluStep_keepsAbsentFlags _ _ _ _ _)).charged (tAlu_inRange src)
  | rotA _ =>
    exact (Change.accumulator (.loc (.reg .a)) _ _ (rotA_keepsAbsentFlags _ _ _ _)).charged
      (hfixed _ (by simp))
  | daa =>
    exact (Change.accumulator (.loc (.reg .a)) _ _ (aluDaa_keepsAbsentFlags _ _ _)).charged
      (hfixed _ (by simp))
  | inc8 m =>
    exact (Change.place m _ _ (.inl rfl) (aluInc_keepsAbsentFlags _ _ _)).charged (tIncDec_inRange _ m)
  | dec8 m =>
    exact (Change.place m _ _ (.inr (.inl rfl)) (aluDec_keepsAbsentFlags _ _ _)).charged
      (tIncDec_inRange _ m)
  | rot op m =>
    rw [rotatePlace_eq]
    exact (Change.place m _ _ (.inr (.inr ⟨op, rfl⟩)) (rot_keepsAbsentFlags _ _ _ _)).charged
      (tRotate_inRange m)
  | inc16 q => exact (Change.pair q _ (.inl rfl)).charged (tIncDecPair_inRange _ q)
  | dec16 q => exact (Change.pair q _ (.inr rfl)).charged (tIncDecPair_inRange _ q)
  | add16 x q =>
    exact (Change.base x _ _ (.inr ⟨q, rfl⟩) (aluAddPair_keepsAbsentFlags _ _ _ _)).charged
      (tAddPair_inRange _ x)
  | adc16 q =>
    exact (Change.base .hl _ _ (.inl rfl) (aluAdd_keepsAbsentFlags _ _ _ _ _)).charged
      (hfixed _ (by simp))
  | sbc16 q =>
    exact (Change.base .hl _ _ (.inl rfl) (aluSub_keepsAbsentFlags _ _ _ _ _)).charged
      (hfixed _ (by simp))
  | jp nn => exact (Change.jump nn (.inl ⟨nn, rfl⟩)).charged (hfixed _ (by simp))
  | jpCond cc nn =>
    unfold jumpIf
    split
    · exact (Change.jump nn (.inr ⟨cc, nn, rfl⟩)).charged (hfixed _ (by simp))
    · exact Change.nothing.charged (hfixed _ (by simp))
  | call nn => exact (Change.call nn (.inl ⟨nn, rfl⟩)).charged (hfixed _ (by simp))
  | callCond cc nn =>
    unfold callIf
    split
    · exact (Change.call nn (.inr (.inl ⟨cc, nn, rfl⟩))).charged (tCallIf_inRange _ _)
    · exact Change.nothing.charged (tCallIf_inRange _ _)
  | ret => exact (Change.ret (.inl rfl)).charged (hfixed _ (by simp))
  | retCond cc =>
    unfold returnIf
    split
    · exact (Change.ret (.inr ⟨cc, rfl⟩)).charged (tReturnIf_inRange _)
    · exact Change.nothing.charged (tReturnIf_inRange _)
  | rst k => exact (Change.call _ (.inr (.inr ⟨k, rfl⟩))).charged (hfixed _ (by simp))
  | push r => exact (Change.push r _ rfl).charged (tPush_inRange r)
  | pop r => exact (Change.pop r _ rfl).charged (tPop_inRange r)
  | exSP x => exact (Change.exchange x _ _ _ rfl).charged (tExchange_inRange _ x)
  | halt => exact (Change.halt rfl).charged (tHalt_inRange _)

/-- An instruction of the policy performs its operation; any other takes the decode error (log 9). -/
theorem exec_spec (i : Instr) (s : State) :
    (i.wf s.policy = true ∧ ∃ t, exec i s = .next t ∧ Charged i s t) ∨
      (i.wf s.policy = false ∧ exec i s = .next
        (s.takeDecodeError (s.pc - BitVec.ofNat 16 (encode i).length) ((encode i).headD 0#8))) := by
  obtain ⟨e, he⟩ := exists_performs i
  cases hwf : i.wf s.policy with
  | true => exact .inl ⟨rfl, _, he.exec_of_wf hwf, he.charged s⟩
  | false => exact .inr ⟨rfl, he.exec_of_not_wf hwf⟩

/-- Everything that the next state of an instruction can be. -/
theorem exec_cases {i : Instr} {s t : State} (h : exec i s = .next t) :
    (i.wf s.policy = true ∧ Charged i s t) ∨
      (i.wf s.policy = false ∧ t =
        s.takeDecodeError (s.pc - BitVec.ofNat 16 (encode i).length) ((encode i).headD 0#8)) := by
  obtain ⟨hwf, u, hexec, hu⟩ | ⟨hwf, hexec⟩ := exec_spec i s
  · obtain rfl : u = t := by simpa [hexec] using h
    exact .inl ⟨hwf, hu⟩
  · exact .inr ⟨hwf, by simpa [hexec, eq_comm] using h⟩

/-! ### The index registers under writes of other registers -/

section
variable {k : Index} {q : Pair16} {x : Base16} {r : StackReg} (w : Word) (s : State)

theorem State.base_index_setPair (hq : q ≠ k.pair) :
    (s.setPair q w).base k.base = s.base k.base := by
  cases k <;> cases q <;> simp [State.setPair, State.base, Index.base, Index.pair] at hq ⊢

theorem State.base_index_setBase (hx : x ≠ k.base) :
    (s.setBase x w).base k.base = s.base k.base := by
  cases k <;> cases x <;> simp [State.setBase, State.base, Index.base] at hx ⊢

theorem State.base_index_setStackReg (hr : r ≠ k.stack) :
    (s.setStackReg r w).base k.base = s.base k.base := by
  cases k <;> cases r <;> simp [State.setStackReg, State.base, Index.base, Index.stack] at hr ⊢

/-- Every byte of memory after both bytes at SP were read and then replaced (47 R194). -/
theorem State.byteAt_exchange {s : State} {y : Word} (lo hi : Byte)
    (h : (s.kindAt y).isMemory = true) :
    (((s.memRead2 s.sp).2.memWrite s.sp lo).memWrite (s.sp + 1#16) hi).byteAt y =
      if s.kindAt y = .ram ∧ y = s.sp then lo
      else if s.kindAt y = .ram ∧ y = s.sp + 1#16 then hi
      else s.byteAt y := by
  have hkind : (s.memRead2 s.sp).2.kindAt y = s.kindAt y := rfl
  have hread : (s.memRead2 s.sp).2.byteAt y = s.byteAt y := State.byteAt_congr rfl rfl h
  have hne := Word.add_one_ne s.sp
  rw [State.byteAt_memWrite (s := (s.memRead2 s.sp).2.memWrite s.sp lo) _ _ h,
    State.byteAt_memWrite (s := (s.memRead2 s.sp).2) _ _ h, State.kindAt_memWrite, hkind, hread]
  by_cases hram : s.kindAt y = .ram
  · by_cases hy : y = s.sp + 1#16 <;> simp [hram, hy, hne]
  · simp [hram]

/-- HL, IX and IY are not what an address reads. -/
theorem State.byteAt_setBase (x : Base16) (y : Word) : (s.setBase x w).byteAt y = s.byteAt y := by
  cases x <;> rfl

end

/-! ### What no instruction changes -/

section
variable {i : Instr} {s t u : State}

/-- Policy, environment and ports (R5, R6, R34), and the latch (60 R210). -/
theorem Change.fixed (h : Change i s u) :
    u.policy = s.policy ∧ u.env = s.env ∧ u.io = s.io ∧ u.fault = s.fault := by
  cases h <;> simp

theorem Change.halted (h : Change i s u) : u.halted = s.halted ∨ i = .halt := by
  cases h with
  | halt hi => exact .inr hi
  | _ => left; simp

theorem Change.sp (h : Change i s u) :
    u.sp = s.sp ∨ IsCall i ∨ IsReturn i ∨ (∃ q, i = .push q) ∨ (∃ q, i = .pop q) ∨ i = .incSP ∨
      i = .decSP := by
  cases h with
  | call nn hi => exact .inr (.inl hi)
  | ret hi => exact .inr (.inr (.inl hi))
  | push r w hi => exact .inr (.inr (.inr (.inl ⟨r, hi⟩)))
  | pop r w hi => exact .inr (.inr (.inr (.inr (.inl ⟨r, hi⟩))))
  | pair q w hi =>
    cases q with
    | sp => exact .inr (.inr (.inr (.inr (.inr hi))))
    | _ => exact .inl rfl
  | _ => left; simp

theorem Change.pc (h : Change i s u) : u.pc = s.pc ∨ IsJump i ∨ IsCall i ∨ IsReturn i := by
  cases h with
  | jump nn hi => exact .inr (.inl hi)
  | call nn hi => exact .inr (.inr (.inl hi))
  | ret hi => exact .inr (.inr (.inr hi))
  | _ => left; simp

/-- IX and IY alike: `k` names one of them. -/
theorem Change.index (k : Index) (h : Change i s u) :
    u.base k.base = s.base k.base ∨ i = .pop k.stack ∨ i = .inc16 k.pair ∨ i = .dec16 k.pair ∨
      (∃ q, i = .add16 k.base q) ∨ i = .exSP k.base := by
  cases h with
  | pair q w hi =>
    by_cases hq : q = k.pair
    · exact .inr (.inr (hq ▸ hi.elim .inl (.inr ∘ .inl)))
    · exact .inl (State.base_index_setPair w s hq)
  | base x w f hi hf =>
    by_cases hx : x = k.base
    · subst hx
      exact .inr (.inr (.inr (.inr (.inl (hi.resolve_left (by cases k <;> decide))))))
    · exact .inl (State.base_index_setBase w _ hx)
  | pop r w hi =>
    by_cases hr : r = k.stack
    · exact .inr (.inl (hr ▸ hi))
    · exact .inl ((State.base_index_setStackReg w _ hr).trans (by cases k <;> rfl))
  | exchange x w lo hi hx =>
    by_cases hk : x = k.base
    · exact .inr (.inr (.inr (.inr (.inr (hk ▸ hx)))))
    · exact .inl ((State.base_index_setBase w _ hk).trans (by cases k <;> rfl))
  | _ => left; cases k <;> simp [State.base, Index.base]

/-- What `I8080` does not have of the flags stays as it is. -/
theorem Change.absentFlags (h : Change i s u) : KeepsAbsentFlags s.policy s.f u.f := by
  cases h with
  | accumulator src a f hf => exact hf
  | place m v f hi hf => simpa using hf
  | base x w f hi hf => simpa using hf
  | pop r w hi =>
    cases r with
    | af => exact ofByte_keepsAbsentFlags _ _ _
    | _ => exact fun _ => ⟨rfl, rfl, rfl⟩
  | _ => simp [KeepsAbsentFlags]

/-- Memory stays in canonical form. -/
theorem Change.wf_mem (h : Change i s u) (hm : s.mem.wf = true) : u.mem.wf = true := by
  cases h with
  | place m v f hi hf =>
    rw [State.writePlace_mem]
    split
    · exact State.wf_memAfterWrite _ _ _ (by simpa using hm)
    · simpa using hm
  | call nn hi | push r w hi =>
    exact State.wf_memAfterWrite _ _ _ (State.wf_memAfterWrite _ _ _ hm)
  | exchange x w lo hi hx =>
    rw [State.setBase_mem]
    exact State.wf_memAfterWrite _ _ _ (State.wf_memAfterWrite _ _ _ hm)
  | _ => simpa using hm

/-- A byte of memory that changes lies in RAM, and `i` stacks, or writes an operand back at that address. -/
theorem Change.byteAt {x : Word} (h : Change i s u) (hx : (s.kindAt x).isMemory = true)
    (hne : u.byteAt x ≠ s.byteAt x) :
    s.kindAt x = .ram ∧
      (IsCall i ∨ (∃ q, i = .push q) ∨ (∃ b, i = .exSP b) ∨
        ∃ m, s.ea m = some x ∧ (i = .inc8 m ∨ i = .dec8 m ∨ ∃ op, i = .rot op m)) := by
  cases h with
  | place m v f hi hf =>
    have hread : ({ (s.readPlace m).2 with f := f } : State).byteAt x = s.byteAt x :=
      State.byteAt_congr (s.readPlace_env m) (s.readPlace_mem m) hx
    have hkind : ({ (s.readPlace m).2 with f := f } : State).kindAt x = s.kindAt x :=
      State.kindAt_congr (s.readPlace_env m) x
    have hea : ({ (s.readPlace m).2 with f := f } : State).ea m = s.ea m := by cases m <;> rfl
    rw [State.byteAt_writePlace _ _ (by rwa [hkind]), hread, hkind, hea] at hne
    obtain ⟨hsome, hram⟩ := (ite_ne_right_iff.1 hne).1
    exact ⟨hram, .inr (.inr (.inr ⟨m, hsome, hi⟩))⟩
  | call nn hi =>
    have hpush : (s.push16 s.pc).byteAt x ≠ s.byteAt x := hne
    rw [State.byteAt_push16 _ hx] at hpush
    exact ⟨(ite_ne_right_iff.1 hpush).1, .inl hi⟩
  | push r w hi =>
    rw [State.byteAt_push16 _ hx] at hne
    exact ⟨(ite_ne_right_iff.1 hne).1, .inr (.inl ⟨r, hi⟩)⟩
  | exchange b w lo hi hb =>
    refine ⟨?_, .inr (.inr (.inl ⟨b, hb⟩))⟩
    by_contra hram
    rw [State.byteAt_setBase, State.byteAt_exchange lo hi hx] at hne
    simp [hram] at hne
  | accumulator src a f hf =>
    exact absurd (State.byteAt_congr (s.readSrc_env src) (s.readSrc_mem src) hx) hne
  | pair q w hi => exact absurd (State.byteAt_congr (by simp) (by simp) hx) hne
  | base b w f hi hf => exact absurd (State.byteAt_setBase w _ b x) hne
  | pop r w hi => exact absurd (State.byteAt_congr (by simp) (by simp) hx) hne
  | ret hi => exact absurd (State.byteAt_congr s.popPC_env s.popPC_mem hx) hne
  | jump nn hi | nothing | halt hi => exact absurd rfl hne

end

/-! ### The obligations about one instruction -/

/-- Settles O11. -/
theorem instructionsRaiseNothing : Obligations.InstructionsRaiseNothing := by
  intro i s hwf
  obtain ⟨-, t, hexec, u, k, hu, -, rfl⟩ | ⟨hnot, -⟩ := exec_spec i s
  · obtain ⟨-, -, -, hfault⟩ := hu.fixed
    exact ⟨_, hexec, hfault⟩
  · simp [hwf] at hnot

/-- Settles O13. -/
theorem prefixedRowsTrapOnI8080 : Obligations.PrefixedRowsTrapOnI8080 := by
  intro i s hp hz80Only
  obtain ⟨hwf, -⟩ | ⟨-, hexec⟩ := exec_spec i s
  · simp [Instr.wf, hp, hz80Only] at hwf
  · exact ⟨_, hexec, rfl, rfl, rfl⟩

/-- Settles O18: HALT sets `halted`, and no other instruction writes it. -/
theorem haltedIsSetByHaltAlone : Obligations.HaltedIsSetByHaltAlone := by
  intro i s t h
  by_cases hi : i = .halt
  · subst hi
    cases h
    simp [haltBlock]
  · have hkeep : t.halted = s.halted := by
      obtain ⟨-, u, k, hu, -, rfl⟩ | ⟨-, rfl⟩ := exec_cases h
      · exact hu.halted.resolve_right hi
      · rfl
    rw [hkeep, beq_eq_false_iff_ne.2 hi, Bool.or_false]

/-- Settles O23. -/
theorem stackPointerWriters : Obligations.StackPointerWriters := by
  intro i s t h hne
  obtain ⟨-, u, k, hu, -, rfl⟩ | ⟨-, rfl⟩ := exec_cases h
  · exact hu.sp.resolve_left hne
  · exact absurd rfl hne

/-- Settles O24: only an instruction that the policy does not have moves PC otherwise, to its first byte. -/
theorem programCounterWriters : Obligations.ProgramCounterWriters := by
  intro i s t hwf h hne
  obtain ⟨-, u, k, hu, -, rfl⟩ | ⟨hnot, -⟩ := exec_cases h
  · exact hu.pc.resolve_left hne
  · simp [hwf] at hnot

/-- Settles O25. -/
theorem indexRegisterWriters : Obligations.IndexRegisterWriters := by
  intro i s t h
  obtain ⟨-, u, k, hu, -, rfl⟩ | ⟨-, rfl⟩ := exec_cases h
  · exact ⟨(hu.index .ix).resolve_left, (hu.index .iy).resolve_left⟩
  · exact ⟨absurd rfl, absurd rfl⟩

/-- Settles O26. -/
theorem memoryWriters : Obligations.MemoryWriters := by
  intro i s t x h hx hne
  obtain ⟨-, u, k, hu, -, rfl⟩ | ⟨-, rfl⟩ := exec_cases h
  · exact hu.byteAt hx hne
  · exact absurd rfl hne

/-- Settles O56. -/
theorem everyInstructionOutputsACount : Obligations.EveryInstructionOutputsACount := by
  intro i s t hwf h
  obtain ⟨-, u, k, -, hk, rfl⟩ | ⟨hnot, -⟩ := exec_cases h
  · exact ⟨k, rfl, hk⟩
  · simp [hwf] at hnot

end Sys2Proof.Machine
end

section
/-! SUPPORT. The sequencer (30_encoding.md R79): how many bytes a fetch reads and what it leaves, and from it what
one step does: the rule of the decoded instruction, or the decode error (60_exceptions.md). -/

namespace Sys2Proof.Machine

open Sys2Proof.Claims

/-! ### The bytes at an address (R70) -/

/-- A shorter run of reads gives the first bytes of a longer one. -/
theorem State.bytesAt_take {n m : Nat} (h : n ≤ m) :
    ∀ (x : Word) (s : State), (s.bytesAt m x).take n = s.bytesAt n x := by
  induction m generalizing n with
  | zero => intro x s; obtain rfl := Nat.le_zero.1 h; rfl
  | succ m ih =>
    intro x s
    cases n with
    | zero => rfl
    | succ n => simp only [State.bytesAt, List.take_succ_cons, ih (Nat.le_of_succ_le_succ h)]

/-- Which accesses memory does not answer depends on the environment alone. -/
theorem State.outside_congr {s t : State} (h : t.env = s.env) : t.outside = s.outside := by
  funext a
  cases a <;> simp only [State.outside, State.kindAt, h]

/-- What an address reads as depends on memory, the environment and what that has been asked, and on nothing
else. -/
theorem State.byteAt_eq_of {s t : State} (hmem : t.mem = s.mem) (henv : t.env = s.env)
    (hhistory : t.envHistory = s.envHistory) (x : Word) : t.byteAt x = s.byteAt x := by
  simp only [State.byteAt, State.kindAt, hmem, henv, hhistory]

/-- What the reads of an instruction's bytes give depends on no more. -/
theorem State.bytesAt_congr (n : Nat) :
    ∀ (x : Word) {s t : State}, t.mem = s.mem → t.env = s.env → t.envHistory = s.envHistory →
      t.bytesAt n x = s.bytesAt n x := by
  induction n with
  | zero => intro x s t _ _ _; rfl
  | succ n ih =>
    intro x s t hmem henv hhistory
    have hbyte : t.byteAt x = s.byteAt x := State.byteAt_eq_of hmem henv hhistory x
    have hseen : (t.memRead x).2.envHistory = (s.memRead x).2.envHistory := by
      simp only [State.memRead_envHistory, State.historyAfter_spec, State.outside_congr henv, hbyte, hhistory]
    have htail := ih (x + 1#16) (s := (s.memRead x).2) (t := (t.memRead x).2) hmem henv hseen
    simp only [State.bytesAt, hbyte, htail]

/-! ### The length of a fetch (R79, R83) -/

/-- The number of bytes that the sequencer reads at PC. -/
def State.fetchCount (s : State) : Nat :=
  fetchLength s.policy (s.byteAt s.pc) ((s.memRead s.pc).2.byteAt (s.pc + 1#16))

theorem fetchLength_pos_le (p : Policy) (b0 b1 : Byte) :
    1 ≤ fetchLength p b0 b1 ∧ fetchLength p b0 b1 ≤ 4 := by
  unfold fetchLength
  split
  · decide
  · split
    · split
      · decide
      · split <;> decide
    · split <;> decide

/-- The bytes of an unprefixed row (R70); one is read where there is none. -/
def opRowBytes : Option OpRow → Nat
  | some (.opN _) => 2
  | some (.opNN _) => 3
  | _ => 1

/-- The bytes of a row after DD or FD (R70); two are read where there is none. -/
def xyRowBytes : Option XyRow → Nat
  | some (.opD _) => 3
  | _ => 2

/-- Whether a row has a displacement does not depend on which index register it names. -/
theorem xyRowBytes_xyRow (k k' : Index) (b : Byte) : xyRowBytes (xyRow k b) = xyRowBytes (xyRow k' b) := by
  unfold xyRow
  split
  case h_5 => split <;> rfl
  all_goals rfl

theorem fetchLength_xy (k : Index) (b1 : Byte) :
    fetchLength .z80 k.byte b1 = if b1 = 0xCB#8 then 4 else xyRowBytes (xyRow k b1) := by
  rw [xyRowBytes_xyRow k .ix]
  cases k <;> rfl

theorem fetchLength_op {p : Policy} {b0 : Byte} (b1 : Byte) (hcb : ¬ (p = .z80 ∧ b0 = 0xCB#8))
    (hed : ¬ (p = .z80 ∧ b0 = 0xED#8)) (hdd : ¬ (p = .z80 ∧ b0 = 0xDD#8))
    (hfd : ¬ (p = .z80 ∧ b0 = 0xFD#8)) : fetchLength p b0 b1 = opRowBytes (opRow b0) := by
  rw [fetchLength, if_neg (by tauto), if_neg (by tauto)]
  rfl

theorem decodeOp_length {b0 : Byte} {bs rest : List Byte} {i : Instr} (h : decodeOp b0 bs = .ok (i, rest)) :
    (b0 :: bs).length = opRowBytes (opRow b0) + rest.length := by
  unfold decodeOp at h
  split at h
  · next hrow => cases h; rw [hrow]; simp [opRowBytes, Nat.add_comm]
  · next hrow => cases h; rw [hrow]; simp [opRowBytes]; omega
  · next hrow => cases h; rw [hrow]; simp [opRowBytes]; omega
  · cases h
  · cases h

theorem decodeXY_length {k : Index} {b1 : Byte} {bs rest : List Byte} {i : Instr}
    (h : decodeXY k (b1 :: bs) = .ok (i, rest)) :
    (k.byte :: b1 :: bs).length = fetchLength .z80 k.byte b1 + rest.length := by
  rw [fetchLength_xy]
  simp only [decodeXY] at h
  split at h
  · next hcb =>
    rw [if_pos hcb]
    split at h
    · split at h
      · cases h; simp; omega
      · cases h
    · cases h
  · next hcb =>
    rw [if_neg hcb]
    split at h
    · next hrow => cases h; rw [hrow]; simp [xyRowBytes]; omega
    · next hrow => cases h; rw [hrow]; simp [xyRowBytes]; omega
    · cases h
    · cases h

/-- The sequencer reads as many bytes as the decoder consumes. -/
theorem decode_length {p : Policy} {b0 b1 : Byte} {bs rest : List Byte} {i : Instr}
    (h : decode p (b0 :: b1 :: bs) = .ok (i, rest)) :
    (b0 :: b1 :: bs).length = fetchLength p b0 b1 + rest.length := by
  simp only [decode] at h
  split at h
  · next hcb =>
    obtain ⟨rfl, rfl⟩ := hcb
    have hrest : bs = rest := by
      simp only [decodeCB] at h
      split at h <;> cases h
      rfl
    simp [fetchLength, hrest]
    omega
  · next hcb =>
    split at h
    · next hed =>
      obtain ⟨rfl, rfl⟩ := hed
      have hrest : bs = rest := by
        simp only [decodeED] at h
        split at h <;> cases h
        rfl
      simp [fetchLength, hrest]
      omega
    · next hed =>
      split at h
      · next hdd => obtain ⟨rfl, rfl⟩ := hdd; exact decodeXY_length (k := .ix) h
      · next hdd =>
        split at h
        · next hfd => obtain ⟨rfl, rfl⟩ := hfd; exact decodeXY_length (k := .iy) h
        · next hfd => rw [fetchLength_op b1 hcb hed hdd hfd]; exact decodeOp_length h

theorem encode_length (i : Instr) : (encode i).length = i.length := by
  cases i <;> rfl

/-! ### One fetch (R79) -/

section
variable {s : State}

theorem State.bytesAt_four_take (s : State) :
    (s.bytesAt 4 s.pc).take s.fetchCount = s.bytesAt s.fetchCount s.pc :=
  State.bytesAt_take (fetchLength_pos_le _ _ _).2 s.pc s

/-- The four bytes at PC, the first two by name. -/
theorem State.bytesAt_four (s : State) :
    ∃ bs, s.bytesAt 4 s.pc = s.byteAt s.pc :: (s.memRead s.pc).2.byteAt (s.pc + 1#16) :: bs :=
  ⟨_, rfl⟩

/-- The bytes that the sequencer reads are the first of the four at PC. -/
theorem State.bytesAt_fetchCount_append (s : State) :
    ∃ bs, s.bytesAt 4 s.pc = s.bytesAt s.fetchCount s.pc ++ bs := by
  rw [← s.bytesAt_four_take]
  exact ⟨_, (List.take_append_drop _ _).symm⟩

/-- If the four bytes begin with a row of the policy, the sequencer reads its encoding. -/
theorem State.bytesAt_fetchCount_of_decode {i : Instr} {rest : List Byte}
    (h : decode s.policy (s.bytesAt 4 s.pc) = .ok (i, rest)) :
    s.fetchCount = i.length ∧ s.bytesAt s.fetchCount s.pc = encode i ++ [] := by
  obtain ⟨hwf, hbytes⟩ := decodedBytesAreTheEncoding _ _ _ _ h
  obtain ⟨bs, hfour⟩ := s.bytesAt_four
  have hcount : s.fetchCount = (encode i).length := by
    have hlength := decode_length (hfour ▸ h)
    rw [← hfour, hbytes, List.length_append] at hlength
    exact (Nat.add_right_cancel hlength).symm
  refine ⟨hcount.trans (encode_length i), ?_⟩
  rw [← s.bytesAt_four_take, hbytes, List.append_nil]
  exact List.take_left' hcount.symm

/-- If no row matches the four bytes, none matches the bytes that the sequencer reads. -/
theorem State.decode_fetchCount_of_error {e : Reject}
    (h : decode s.policy (s.bytesAt 4 s.pc) = .error e) :
    ∃ e', decode s.policy (s.bytesAt s.fetchCount s.pc) = .error e' := by
  cases hread : decode s.policy (s.bytesAt s.fetchCount s.pc) with
  | error e' => exact ⟨e', rfl⟩
  | ok x =>
    obtain ⟨i, rest⟩ := x
    obtain ⟨hwf, hbytes⟩ := decodedBytesAreTheEncoding _ _ _ _ hread
    obtain ⟨bs, hfour⟩ := s.bytesAt_fetchCount_append
    rw [hfour, hbytes, List.append_assoc,
      decodeOfEncodeIsTheInstruction _ _ _ hwf] at h
    cases h

/-- The reads of a fetch and what they leave. -/
theorem State.readBytes_clearOutputs (s : State) (n : Nat) :
    s.clearOutputs.readBytes n s.pc = (s.bytesAt n s.pc, { afterFetch s n with pc := s.pc }) := by
  rw [State.readBytes_spec]
  have hbytes : s.clearOutputs.bytesAt n s.pc = s.bytesAt n s.pc := State.bytesAt_congr n s.pc rfl rfl rfl
  rw [hbytes]
  rfl

/-- If the four bytes begin with a row of the policy, the fetch gives it, with PC past it (R79). -/
theorem State.fetch_of_decode {i : Instr} {rest : List Byte}
    (h : decode s.policy (s.bytesAt 4 s.pc) = .ok (i, rest)) :
    s.fetch = .decoded i (afterFetch s i.length) := by
  obtain ⟨hcount, hbytes⟩ := State.bytesAt_fetchCount_of_decode h
  obtain ⟨hwf, -⟩ := decodedBytesAreTheEncoding _ _ _ _ h
  have hread := s.readBytes_clearOutputs s.fetchCount
  unfold State.fetch
  simp only [State.fetchCount] at *
  rw [hread, hbytes, decodeOfEncodeIsTheInstruction _ _ _ hwf, hcount]
  rfl

/-- If no row matches, the fetch takes the decode error at the first byte (60 R211, R212). -/
theorem State.fetch_of_error {e : Reject} (h : decode s.policy (s.bytesAt 4 s.pc) = .error e) :
    s.fetch = .undecodable
      (({ afterFetch s s.fetchCount with pc := s.pc } : State).takeDecodeError s.pc (s.byteAt s.pc)) := by
  obtain ⟨e', herror⟩ := State.decode_fetchCount_of_error h
  have hread := s.readBytes_clearOutputs s.fetchCount
  unfold State.fetch
  simp only [State.fetchCount] at *
  rw [hread, herror]

/-- Settles O6. -/
theorem stepRunsTheDecodedInstruction : Obligations.StepRunsTheDecodedInstruction := by
  intro s i rest hfault h
  simp only [step, hfault, State.fetch_of_decode h]

/-- The step of a decode error. -/
theorem step_of_error {e : Reject} (hfault : s.fault = none)
    (h : decode s.policy (s.bytesAt 4 s.pc) = .error e) :
    step s = .next
      (({ afterFetch s s.fetchCount with pc := s.pc } : State).takeDecodeError s.pc (s.byteAt s.pc)) := by
  simp only [step, hfault, State.fetch_of_error h]

/-- While the latch is set there is no step (60 R215). -/
theorem step_of_fault {r : FaultRecord} (h : s.fault = some r) : step s = .fault (.stuck r) := by
  simp only [step, h]

/-- A step that can be made finds the latch clear. -/
theorem fault_of_step {t : State} (h : step s = .next t) : s.fault = none := by
  cases hfault : s.fault with
  | none => rfl
  | some r => simp [step_of_fault hfault] at h

end

end Sys2Proof.Machine
end

section
/-! SUPPORT. What one step does, said once (`step_cases`), and from it the decode error, the way out of it, and the
invariants of every step (60_exceptions.md, 10_state.md R23, R26, R30, R34). -/

namespace Sys2Proof.Machine

open Sys2Proof.Claims

section
variable {s t : State}

/-! ### The decode error (60 R211 to R216) -/

/-- The state in which a decode error leaves the block. -/
def afterDecodeError (s : State) : State :=
  ({ afterFetch s s.fetchCount with pc := s.pc } : State).takeDecodeError s.pc (s.byteAt s.pc)

/-- Settles O7: the reads are those of the fetch, at least one and at most four. -/
theorem decodeErrorEntry : Obligations.DecodeErrorEntry := by
  intro s e hfault h
  obtain ⟨hpos, hle⟩ := fetchLength_pos_le s.policy (s.byteAt s.pc)
    ((s.memRead s.pc).2.byteAt (s.pc + 1#16))
  exact ⟨afterDecodeError s, s.fetchCount, step_of_error hfault h, rfl, rfl, hpos, hle, rfl, rfl, rfl,
    ⟨rfl, fun _ hx => State.byteAt_congr rfl rfl hx⟩, step_of_fault rfl⟩

/-- Settles O12: a decoded instruction leaves the latch clear, and the decode error sets it. -/
theorem onlyMissingRowsRaiseTheError : Obligations.OnlyMissingRowsRaiseTheError := by
  intro s hfault
  cases h : decode s.policy (s.bytesAt 4 s.pc) with
  | error e => exact ⟨afterDecodeError s, step_of_error hfault h, by simp [afterDecodeError]⟩
  | ok x =>
    obtain ⟨i, rest⟩ := x
    obtain ⟨hwf, -⟩ := decodedBytesAreTheEncoding _ _ _ _ h
    obtain ⟨t, hexec, hlatch⟩ := instructionsRaiseNothing i (afterFetch s i.length) hwf
    refine ⟨t, (stepRunsTheDecodedInstruction s i rest hfault h).trans hexec, ?_⟩
    have hclear : t.fault = none := hlatch.trans hfault
    simp [hclear]

/-- Settles O8: after the reset input the latch is clear, and there is a step from every such state. -/
theorem onlyResetLeavesTheFaultState : Obligations.OnlyResetLeavesTheFaultState := by
  intro s r hfault
  refine ⟨step_of_fault hfault, fun launch => ⟨rfl, ?_⟩⟩
  obtain ⟨t, hstep, -⟩ := onlyMissingRowsRaiseTheError (s.applyReset launch) rfl
  exact ⟨t, hstep⟩

/-! ### Every step -/

/-- A step performs the operation of an instruction of the policy, PC being past it, or takes the decode
error. -/
theorem step_cases (h : step s = .next t) :
    (∃ i, i.wf s.policy = true ∧ Charged i (afterFetch s i.length) t) ∨ t = afterDecodeError s := by
  have hfault := fault_of_step h
  cases hdecode : decode s.policy (s.bytesAt 4 s.pc) with
  | error e =>
    rw [step_of_error hfault hdecode] at h
    cases h
    exact .inr rfl
  | ok x =>
    obtain ⟨i, rest⟩ := x
    obtain ⟨hwf, -⟩ := decodedBytesAreTheEncoding _ _ _ _ hdecode
    rw [stepRunsTheDecodedInstruction s i rest hfault hdecode] at h
    obtain ⟨-, ht⟩ | ⟨hnot, -⟩ := exec_cases h
    · exact .inl ⟨i, hwf, ht⟩
    · exact absurd (hwf.symm.trans hnot) (by decide)

/-- Settles O17. -/
theorem policyAndPortsNeverChange : Obligations.PolicyAndPortsNeverChange := by
  intro s t h
  obtain ⟨i, -, u, k, hu, -, rfl⟩ | rfl := step_cases h
  · obtain ⟨hpolicy, henv, hio, -⟩ := hu.fixed
    exact ⟨hpolicy, henv, hio⟩
  · exact ⟨rfl, rfl, rfl⟩

/-- No row of `I8080` writes IX or IY (R23, R81). -/
theorem Change.index_i8080 {i : Instr} {u : State} (k : Index) (h : Change i s u)
    (hwf : i.wf .i8080 = true) : u.base k.base = s.base k.base := by
  obtain hkeep | rfl | rfl | rfl | ⟨q, rfl⟩ | rfl := h.index k
  · exact hkeep
  · cases k <;> cases hwf
  · cases k <;> cases hwf
  · cases k <;> cases hwf
  · cases k <;> cases q <;> cases hwf
  · cases k <;> cases hwf

/-- Settles O16. -/
theorem absentStateIsInertOnI8080 : Obligations.AbsentStateIsInertOnI8080 := by
  intro s t hp h
  obtain ⟨i, hwf, u, k, hu, -, rfl⟩ | rfl := step_cases h
  · rw [hp] at hwf
    obtain ⟨hn, hf5, hf3⟩ := hu.absentFlags hp
    exact ⟨hn, hf5, hf3, hu.index_i8080 .ix hwf, hu.index_i8080 .iy hwf⟩
  · exact ⟨rfl, rfl, rfl, rfl, rfl⟩

/-- Every step keeps memory in canonical form. -/
theorem step_wf_mem (hm : s.mem.wf = true) (h : step s = .next t) : t.mem.wf = true := by
  obtain ⟨i, -, u, k, hu, -, rfl⟩ | rfl := step_cases h
  · exact hu.wf_mem hm
  · exact hm

/-- Settles O14: memory by `step_wf_mem`, ports because no step writes them, the absent state because no step
changes it. -/
theorem stepKeepsTheInvariant : Obligations.StepKeepsTheInvariant := by
  intro s t hinv h
  obtain ⟨hmem, hio, habsent⟩ := hinv
  obtain ⟨hpolicy, -, hports⟩ := policyAndPortsNeverChange s t h
  refine ⟨step_wf_mem hmem h, hports ▸ hio, fun hp => ?_⟩
  have hp' : s.policy = .i8080 := hpolicy.symm.trans hp
  obtain ⟨hn, hf5, hf3, hix, hiy⟩ := absentStateIsInertOnI8080 s t hp' h
  rw [hn, hf5, hf3, hix, hiy]
  exact habsent hp'

/-- Settles O15. -/
theorem resetMeetsTheInvariant : Obligations.ResetMeetsTheInvariant :=
  ⟨rfl, rfl, fun h => nomatch h⟩

end

end Sys2Proof.Machine
end

section
/-! SUPPORT. What nothing reads (10_state.md R28, R30; 70 R233): for `halted`, the outputs, N and the pair F5, F3,
every operation does the same to everything else, whatever they are. -/

namespace Sys2Proof.Machine

open Sys2Proof.Claims

/-! ### Conditional transfers, by whether they are taken (46 R177, R179, R181) -/

section
variable {cc : Cond} {s : State} (nn : Word)

theorem jumpIf_taken (h : s.f.holds cc = true) : jumpIf cc nn s = jumpTo nn s := if_pos h

theorem jumpIf_not_taken (h : s.f.holds cc = false) : jumpIf cc nn s = s.charge tJump := by
  simp [jumpIf, h]

theorem callIf_taken (h : s.f.holds cc = true) :
    callIf cc nn s = (s.pushJump nn).charge (tCallIf s.policy true) := if_pos h

theorem callIf_not_taken (h : s.f.holds cc = false) :
    callIf cc nn s = s.charge (tCallIf s.policy false) := by
  simp [callIf, h]

theorem returnIf_taken (h : s.f.holds cc = true) : returnIf cc s = s.popPC.charge (tReturnIf true) :=
  if_pos h

theorem returnIf_not_taken (h : s.f.holds cc = false) : returnIf cc s = s.charge (tReturnIf false) := by
  simp [returnIf, h]

end

/-! ### The outputs and `halted` (70 R233, 10_state.md R30) -/

/-- The outputs and `halted` before `e` bear on the same fields after it, each by itself, and on no other. -/
def IgnoresOutputsAndHalted (e : State → State) : Prop :=
  ∀ (s : State) (o : Outputs) (b : Bool), e { s with out := o, halted := b } =
    { e s with out := (e { s with out := o }).out, halted := (e { s with halted := b }).halted }

/-- A condition reads flags only. -/
theorem IgnoresOutputsAndHalted.ite {e e' : State → State} (cc : Cond) (h : IgnoresOutputsAndHalted e)
    (h' : IgnoresOutputsAndHalted e') :
    IgnoresOutputsAndHalted fun s => if s.f.holds cc then e s else e' s := by
  intro s o b
  by_cases hcc : s.f.holds cc = true
  · simp only [hcc, if_true, h s o b]
  · simp only [hcc, if_false, h' s o b, Bool.false_eq_true]

theorem Performs.ignoresOutputsAndHalted {i : Instr} {e : State → State} (h : Performs i e) :
    IgnoresOutputsAndHalted e := by
  cases h with
  | jpCond cc nn => exact .ite cc (fun _ _ _ => rfl) (fun _ _ _ => rfl)
  | callCond cc nn => exact .ite cc (fun _ _ _ => rfl) (fun _ _ _ => rfl)
  | retCond cc => exact .ite cc (fun _ _ _ => rfl) (fun _ _ _ => rfl)
  | alu op src =>
    cases src with
    | imm n => exact fun _ _ _ => rfl
    | loc m => cases m <;> exact fun _ _ _ => rfl
  | inc8 m | dec8 m | rot op m =>
    cases m with
    | reg r => cases r <;> exact fun _ _ _ => rfl
    | indHL | indIX d | indIY d => exact fun _ _ _ => rfl
  | inc16 q | dec16 q => cases q <;> exact fun _ _ _ => rfl
  | add16 x q => cases x <;> cases q <;> exact fun _ _ _ => rfl
  | adc16 q | sbc16 q => cases q <;> exact fun _ _ _ => rfl
  | push r | pop r => cases r <;> exact fun _ _ _ => rfl
  | exSP x => cases x <;> exact fun _ _ _ => rfl
  | rotA _ | daa | jp nn | call nn | ret | rst k | halt => exact fun _ _ _ => rfl

/-- Every instruction, also one that the policy does not have. -/
theorem exec_outputs_halted {i : Instr} {s t : State} (h : exec i s = .next t) (o : Outputs) (b : Bool) :
    ∃ o' b', exec i { s with out := o, halted := b } = .next { t with out := o', halted := b' } ∧
      (o = s.out → o' = t.out) ∧ (b = s.halted → b' = t.halted) := by
  obtain ⟨e, he⟩ := exists_performs i
  cases hwf : i.wf s.policy with
  | true =>
    rw [he.exec_of_wf hwf] at h
    cases h
    refine ⟨_, _, (he.exec_of_wf (s := { s with out := o, halted := b }) hwf).trans
      (congrArg _ (he.ignoresOutputsAndHalted s o b)), ?_, ?_⟩ <;> rintro rfl <;> rfl
  | false =>
    rw [he.exec_of_not_wf hwf] at h
    cases h
    refine ⟨_, _, he.exec_of_not_wf (s := { s with out := o, halted := b }) hwf, ?_, ?_⟩ <;>
      rintro rfl <;> rfl

/-- Settles O20. -/
theorem outputsAreReadByNothing : Obligations.OutputsAreReadByNothing := by
  intro i s t o h
  obtain ⟨o', b', hexec, -, hb⟩ := exec_outputs_halted h o s.halted
  rw [hb rfl] at hexec
  exact ⟨o', hexec⟩

/-! ### A step and `halted` (R30) -/

section
variable (s : State) (b : Bool)

theorem fetchReads_halted (n : Nat) : fetchReads { s with halted := b } n = fetchReads s n := by
  have hbytes : ({ s with halted := b } : State).bytesAt n s.pc = s.bytesAt n s.pc :=
    State.bytesAt_congr n s.pc rfl rfl rfl
  simp only [fetchReads, hbytes]

theorem afterFetch_halted (n : Nat) :
    afterFetch { s with halted := b } n = { afterFetch s n with halted := b } := by
  simp only [afterFetch, fetchReads_halted]
  rfl

end

/-- Settles O19: the bytes fetched are the same, and so is what the instruction or the decode error does. -/
theorem haltedIsReadByNothing : Obligations.HaltedIsReadByNothing := by
  intro s t b h
  have hbytes : ({ s with halted := b } : State).bytesAt 4 s.pc = s.bytesAt 4 s.pc :=
    State.bytesAt_congr 4 s.pc rfl rfl rfl
  have hfault := fault_of_step h
  cases hdecode : decode s.policy (s.bytesAt 4 s.pc) with
  | error e =>
    have hstep := step_of_error (s := { s with halted := b }) hfault (hbytes.symm ▸ hdecode)
    rw [step_of_error hfault hdecode] at h
    cases h
    rw [afterFetch_halted] at hstep
    exact ⟨b, hstep⟩
  | ok x =>
    obtain ⟨i, rest⟩ := x
    have hstep := stepRunsTheDecodedInstruction { s with halted := b } i rest hfault (hbytes.symm ▸ hdecode)
    rw [stepRunsTheDecodedInstruction s i rest hfault hdecode] at h
    obtain ⟨o', b', hexec, ho, -⟩ := exec_outputs_halted h (afterFetch s i.length).out b
    rw [ho rfl] at hexec
    rw [afterFetch_halted] at hstep
    exact ⟨b', hstep.trans hexec⟩

/-! ### N, and the pair F5, F3 (R28, R99) -/

/-- The flags that hardly any instruction reads. -/
inductive Unread where
  | n | f5f3

/-- `f` with the flags that `k` names taken from `g`. -/
def Unread.put : Unread → Flags → Flags → Flags
  | .n, f, g => { f with n := g.n }
  | .f5f3, f, g => { f with f5 := g.f5, f3 := g.f3 }

section
variable (k : Unread) (p : Policy) (f g : Flags)


theorem Unread.put_holds (cc : Cond) : (k.put f g).holds cc = f.holds cc := by
  cases k <;> cases cc <;> rfl

/-- A flag function that gives a value and new flags reads none of the flags of `k`. -/
def Unread.IgnoredBy {α : Type} (k : Unread) (fn : Flags → α × Flags) : Prop :=
  ∀ f g, fn (k.put f g) = ((fn f).1, k.put (fn f).2 (fn (k.put f g)).2)

theorem Unread.ignoredBy_aluStep (op : AluOp) (a v : Byte) : k.IgnoredBy (aluStep op p a v) := by
  cases k <;> cases p <;> cases op <;> exact fun _ _ => rfl

theorem Unread.ignoredBy_aluInc (m : Byte) : k.IgnoredBy (aluInc p m) := by
  cases k <;> cases p <;> exact fun _ _ => rfl

theorem Unread.ignoredBy_aluDec (m : Byte) : k.IgnoredBy (aluDec p m) := by
  cases k <;> cases p <;> exact fun _ _ => rfl

theorem Unread.ignoredBy_aluDaa (hk : k ≠ .n) (a : Byte) : k.IgnoredBy (aluDaa p a) := by
  cases k with
  | n => exact absurd rfl hk
  | f5f3 => cases p <;> exact fun _ _ => rfl

theorem Unread.ignoredBy_aluAddPair (a b : Word) : k.IgnoredBy (aluAddPair p a b) := by
  cases k <;> cases p <;> exact fun _ _ => rfl

theorem Unread.ignoredBy_aluAdd (a b : Word) : k.IgnoredBy fun f => aluAdd p a b f.c f := by
  cases k <;> cases p <;> exact fun _ _ => rfl

theorem Unread.ignoredBy_aluSub (a b : Word) : k.IgnoredBy fun f => aluSub p a b f.c f := by
  cases k <;> cases p <;> exact fun _ _ => rfl

theorem Unread.ignoredBy_rotA (op : RotOp) (v : Byte) :
    k.IgnoredBy fun f => ((rotateByte op v f.c).1, f.rotA p (rotateByte op v f.c).1 (rotateByte op v f.c).2) := by
  cases k <;> cases p <;> exact fun _ _ => rfl

theorem Unread.ignoredBy_rot (op : RotOp) (v : Byte) :
    k.IgnoredBy fun f => ((rotateByte op v f.c).1, f.rot p (rotateByte op v f.c).1 (rotateByte op v f.c).2) := by
  cases k <;> cases p <;> exact fun _ _ => rfl

theorem Unread.ignoredBy_ofByte (b : Byte) : k.IgnoredBy fun f => ((), f.ofByte p b) := by
  cases k <;> cases p <;> exact fun _ _ => rfl

end

/-- The flags that `k` names bear on themselves after `e` and on nothing else. -/
def Unread.IgnoredByEffect (k : Unread) (e : State → State) : Prop :=
  ∀ s g, ∃ g', e { s with f := k.put s.f g } = { e s with f := k.put (e s).f g' }

section
variable {k : Unread} {e e' : State → State}

/-- An operation that gives a value and new flags by `fn`, and does with the value what no flag bears on. -/
theorem Unread.ignoredByEffect_of_value {α : Type} (build : State → α → State)
    (fn : State → Flags → α × Flags) (hfn : ∀ s, k.IgnoredBy (fn s))
    (he : ∀ s f, e { s with f := f } = { build s (fn s f).1 with f := (fn s f).2 }) :
    k.IgnoredByEffect e := by
  intro s g
  have hs : e s = { build s (fn s s.f).1 with f := (fn s s.f).2 } := he s s.f
  obtain ⟨g', hg'⟩ : ∃ g', fn s (k.put s.f g) = ((fn s s.f).1, k.put (fn s s.f).2 g') :=
    ⟨_, hfn s s.f g⟩
  exact ⟨g', by rw [he, hs, hg']⟩

/-- An operation that leaves the flags alone. -/
theorem Unread.ignoredByEffect_of_keeps (he : ∀ s f, e { s with f := f } = { e s with f := f }) :
    k.IgnoredByEffect e := by
  intro s g
  have hs : e s = { e s with f := s.f } := he s s.f
  have hf : (e s).f = s.f := by rw [hs]
  exact ⟨g, by rw [he, hf]⟩

/-- No condition reads them. -/
theorem Unread.IgnoredByEffect.ite (cc : Cond) (h : k.IgnoredByEffect e) (h' : k.IgnoredByEffect e') :
    k.IgnoredByEffect fun s => if s.f.holds cc then e s else e' s := by
  intro s g
  simp only [Unread.put_holds]
  split
  · exact h s g
  · exact h' s g

theorem incPlace8_flags (m : Place8) (s : State) (f : Flags) :
    let v := aluInc s.policy (s.placeValue m) f
    incPlace8 m { s with f := f } =
      { ((s.readPlace m).2.writePlace m v.1).charge (tIncDec s.policy m) with f := v.2 } := by
  cases m with
  | reg r => cases r <;> rfl
  | indHL | indIX d | indIY d => rfl

theorem decPlace8_flags (m : Place8) (s : State) (f : Flags) :
    let v := aluDec s.policy (s.placeValue m) f
    decPlace8 m { s with f := f } =
      { ((s.readPlace m).2.writePlace m v.1).charge (tIncDec s.policy m) with f := v.2 } := by
  cases m with
  | reg r => cases r <;> rfl
  | indHL | indIX d | indIY d => rfl

theorem rotatePlace_flags (op : RotOp) (m : Place8) (s : State) (f : Flags) :
    let v := rotateByte op (s.placeValue m) f.c
    rotatePlace op m { s with f := f } =
      { ((s.readPlace m).2.writePlace m v.1).charge (tRotate m) with f := f.rot s.policy v.1 v.2 } := by
  cases m with
  | reg r => cases r <;> rfl
  | indHL | indIX d | indIY d => rfl

theorem Performs.ignores {i : Instr} (h : Performs i e) (hpush : i ≠ .pushAF)
    (hdaa : k = .n → i ≠ .daa) : k.IgnoredByEffect e := by
  cases h with
  | alu op src =>
    refine Unread.ignoredByEffect_of_value
      (fun s a => ({ (s.readSrc src).2 with a := a } : State).charge (tAlu src)) _
      (fun s => Unread.ignoredBy_aluStep k s.policy op s.a (s.srcValue src)) fun s f => ?_
    cases src with
    | imm n => rfl
    | loc m => cases m <;> rfl
  | inc8 m =>
    exact Unread.ignoredByEffect_of_value
      (fun s v => ((s.readPlace m).2.writePlace m v).charge (tIncDec s.policy m)) _
      (fun s => Unread.ignoredBy_aluInc k s.policy (s.placeValue m)) (incPlace8_flags m)
  | dec8 m =>
    exact Unread.ignoredByEffect_of_value
      (fun s v => ((s.readPlace m).2.writePlace m v).charge (tIncDec s.policy m)) _
      (fun s => Unread.ignoredBy_aluDec k s.policy (s.placeValue m)) (decPlace8_flags m)
  | rot op m =>
    exact Unread.ignoredByEffect_of_value
      (fun s v => ((s.readPlace m).2.writePlace m v).charge (tRotate m)) _
      (fun s => Unread.ignoredBy_rot k s.policy op (s.placeValue m)) (rotatePlace_flags op m)
  | @rotA op _ _ =>
    exact Unread.ignoredByEffect_of_value (fun s a => ({ s with a := a } : State).charge tRotateA) _
      (fun s => Unread.ignoredBy_rotA k s.policy op s.a) fun _ _ => rfl
  | daa =>
    exact Unread.ignoredByEffect_of_value (fun s a => ({ s with a := a } : State).charge tDaa) _
      (fun s => Unread.ignoredBy_aluDaa k s.policy (fun hk => hdaa hk rfl) s.a) fun _ _ => rfl
  | add16 x q =>
    refine Unread.ignoredByEffect_of_value
      (fun s w => (s.setBase x w).charge (tAddPair s.policy x)) _
      (fun s => Unread.ignoredBy_aluAddPair k s.policy (s.base x) (s.ss x q)) fun s f => ?_
    cases x <;> cases q <;> rfl
  | adc16 q =>
    refine Unread.ignoredByEffect_of_value (fun s w => (s.setHL w).charge tCarryPair) _
      (fun s => Unread.ignoredBy_aluAdd k s.policy s.hl (s.ss .hl q)) fun s f => ?_
    cases q <;> rfl
  | sbc16 q =>
    refine Unread.ignoredByEffect_of_value (fun s w => (s.setHL w).charge tCarryPair) _
      (fun s => Unread.ignoredBy_aluSub k s.policy s.hl (s.ss .hl q)) fun s f => ?_
    cases q <;> rfl
  | pop r =>
    cases r with
    | af =>
      exact Unread.ignoredByEffect_of_value
        (fun s _ => ({ s.pop16.2 with a := hi8 s.pop16.1 } : State).charge (tPop .af)) _
        (fun s => Unread.ignoredBy_ofByte k s.policy (lo8 s.pop16.1)) fun _ _ => rfl
    | _ => exact Unread.ignoredByEffect_of_keeps fun _ _ => rfl
  | push r =>
    cases r with
    | af => exact absurd rfl hpush
    | _ => exact Unread.ignoredByEffect_of_keeps fun _ _ => rfl
  | inc16 q | dec16 q => exact Unread.ignoredByEffect_of_keeps fun _ _ => by cases q <;> rfl
  | exSP x => exact Unread.ignoredByEffect_of_keeps fun _ _ => by cases x <;> rfl
  | jpCond cc nn =>
    exact .ite cc (Unread.ignoredByEffect_of_keeps fun _ _ => rfl)
      (Unread.ignoredByEffect_of_keeps fun _ _ => rfl)
  | callCond cc nn =>
    exact .ite cc (Unread.ignoredByEffect_of_keeps fun _ _ => rfl)
      (Unread.ignoredByEffect_of_keeps fun _ _ => rfl)
  | retCond cc =>
    exact .ite cc (Unread.ignoredByEffect_of_keeps fun _ _ => rfl)
      (Unread.ignoredByEffect_of_keeps fun _ _ => rfl)
  | jp nn | call nn | ret | rst t | halt => exact Unread.ignoredByEffect_of_keeps fun _ _ => rfl

end

/-- Every instruction that does not read the flags of `k`, also one that the policy does not have. -/
theorem exec_unread (k : Unread) {i : Instr} {s t : State} (hpush : i ≠ .pushAF)
    (hdaa : k = .n → i ≠ .daa) (h : exec i s = .next t) (g : Flags) :
    ∃ g', exec i { s with f := k.put s.f g } = .next { t with f := k.put t.f g' } := by
  obtain ⟨e, he⟩ := exists_performs i
  cases hwf : i.wf s.policy with
  | true =>
    rw [he.exec_of_wf hwf] at h
    cases h
    obtain ⟨g', heq⟩ := he.ignores (k := k) hpush hdaa s g
    exact ⟨g', (he.exec_of_wf (s := { s with f := k.put s.f g }) hwf).trans (congrArg _ heq)⟩
  | false =>
    rw [he.exec_of_not_wf hwf] at h
    cases h
    exact ⟨g, he.exec_of_not_wf (s := { s with f := k.put s.f g }) hwf⟩

/-- Settles O21. -/
theorem undocumentedFlagsAreReadByPushAFAlone : Obligations.UndocumentedFlagsAreReadByPushAFAlone := by
  intro i s t x y hpush h
  obtain ⟨g', hexec⟩ := exec_unread .f5f3 hpush (fun hk => nomatch hk) h { s.f with f5 := x, f3 := y }
  exact ⟨g'.f5, g'.f3, hexec⟩

/-- Settles O22. -/
theorem addSubtractFlagIsReadByDaaAndPushAFAlone :
    Obligations.AddSubtractFlagIsReadByDaaAndPushAFAlone := by
  intro i s t x hdaa hpush h
  obtain ⟨g', hexec⟩ := exec_unread .n hpush (fun _ => hdaa) h { s.f with n := x }
  exact ⟨g'.n, hexec⟩

end Sys2Proof.Machine
end

section
/-! SUPPORT. The results of the arithmetic that is left: AND (41 R115), INC and DEC of an operand (42 R130, R131),
the prefixed rotates (43 R145 to R152) and the 16-bit additions (45 R165 to R169). -/

namespace Sys2Proof.Machine

open Sys2Proof.Claims

/-! ### Accesses one after another (20_memory.md R55) -/

section
variable {l l' : List Access} {s t u : State}

theorem accesses_trans (h : Accesses l s t) (h' : Accesses l' t u) (henv : t.env = s.env) :
    Accesses (l ++ l') s u := by
  obtain ⟨hbus, hhistory⟩ := h
  obtain ⟨hbus', hhistory'⟩ := h'
  rw [State.outside_congr henv] at hhistory'
  simp [Accesses, hbus, hhistory, hbus', hhistory', List.append_assoc]

end

section
variable (x : Word) (m : Place8) (v : Byte) (s : State)

theorem State.memRead_accesses : Accesses [.memRead x (s.byteAt x)] s (s.memRead x).2 :=
  ⟨rfl, s.historyAfter_spec _⟩

theorem State.memWrite_accesses : Accesses [.memWrite x v] s (s.memWrite x v) :=
  ⟨rfl, s.historyAfter_spec _⟩

theorem State.readPlace_accesses : Accesses (placeReads s m) s (s.readPlace m).2 := by
  cases m with
  | reg r => simp [Accesses, placeReads, State.ea, State.readPlace]
  | indHL | indIX d | indIY d => exact State.memRead_accesses _ s

theorem State.writePlace_accesses : Accesses (placeWrites s m v) s (s.writePlace m v) := by
  cases m with
  | reg r => simp [Accesses, placeWrites, State.ea, State.writePlace]
  | indHL | indIX d | indIY d => exact State.memWrite_accesses _ v s

end

/-! ### The policies an operand form exists under (R81) -/

section
variable {p : Policy} {i : Instr} {bs : List Byte} {both : Bool}

/-- A row exists under `Z80`, and under `I8080` if it says so. -/
theorem wf_of_isRow (h : IsRow i bs both) (hp : (both || p == .z80) = true) : i.wf p = true :=
  (h.2 p).trans hp

theorem Place8.wf_eq (m : Place8) : m.wf p = (m.wf .i8080 || p == .z80) := by
  cases p <;> cases m <;> rfl

theorem Base16.wf_eq (x : Base16) : x.wf p = (x.wf .i8080 || p == .z80) := by
  cases p <;> cases x <;> rfl

theorem StackReg.wf_eq (r : StackReg) : r.wf p = (r.wf .i8080 || p == .z80) := by
  cases p <;> cases r <;> rfl

end

/-! ### AND (R115) -/

/-- Settles O32: `alu_logic(AND)` bit by bit, the half-carry by policy. -/
theorem andResult : Obligations.AndResult := by
  intro src s hwf v half
  refine ⟨isRow_alu .and src, _, exec_alu .and hwf, ?bits, ?flags, aluA_onlyAF .., aluA_accesses ..⟩
  case bits =>
    intro k
    rw [aluA_a]
    exact BitVec.getLsbD_and
  case flags =>
    have hhalf : half = match s.policy with
        | .z80 => true
        | .i8080 => (s.a ||| v).getLsbD 3 := by
      cases hp : s.policy <;> simp [half, hp]
    rw [aluA_a, aluA_f, hhalf]
    exact logicFlags_spec ..

/-! ### An operand read and written back (42 R130, R131; 43 R140) -/

/-- The operand m read once and replaced by `v`, the flags being `f` from then on. -/
def State.replacePlace (m : Place8) (v : Byte) (f : Flags) (k : Nat) (s : State) : State :=
  (({ (s.readPlace m).2 with f := f } : State).writePlace m v).charge k

section
variable (m : Place8) (v : Byte) (f : Flags) (k : Nat) (s : State)

@[simp] theorem State.replacePlace_f : (s.replacePlace m v f k).f = f := by
  simp [State.replacePlace]

theorem State.replacePlace_wrotePlace : WrotePlace m v s (s.replacePlace m v f k) := by
  let s1 : State := { (s.readPlace m).2 with f := f }
  have hea : s1.ea m = s.ea m := by cases m <;> rfl
  have henv : s1.env = s.env := s.readPlace_env m
  have hreg8 (q : Reg8) : (s.replacePlace m v f k).reg8 q = if m = .reg q then v else s.reg8 q := by
    have hread : s1.reg8 q = s.reg8 q := by cases m <;> rfl
    have hcharge : (s.replacePlace m v f k).reg8 q = (s1.writePlace m v).reg8 q := by cases q <;> rfl
    rw [hcharge, State.reg8_writePlace, hread]
  have hbyte (x : Word) (hx : (s.kindAt x).isMemory = true) :
      (s.replacePlace m v f k).byteAt x = if s.ea m = some x ∧ s.kindAt x = .ram then v else s.byteAt x := by
    have hkind : s1.kindAt x = s.kindAt x := State.kindAt_congr henv x
    have hread : s1.byteAt x = s.byteAt x := State.byteAt_congr henv (s.readPlace_mem m) hx
    rw [← hread, ← hea, ← hkind]
    exact State.byteAt_writePlace m v (hkind ▸ hx)
  refine ⟨?taken, ?others, hbyte, ?rest⟩
  case taken => exact fun q hq => (hreg8 q).trans (if_pos hq)
  case others => exact fun q hq => (hreg8 q).trans (if_neg hq)
  case rest => simp [State.replacePlace]

theorem State.replacePlace_accesses :
    Accesses (placeReads s m ++ placeWrites s m v) s (s.replacePlace m v f k) := by
  have hread := State.readPlace_accesses m s
  have hwrite := State.writePlace_accesses m v { (s.readPlace m).2 with f := f }
  have hplace : placeWrites { (s.readPlace m).2 with f := f } m v = placeWrites s m v := by cases m <;> rfl
  exact accesses_trans hread (hplace ▸ hwrite) (s.readPlace_env m)

end

/-! ### INC and DEC (R130, R131) -/

section
variable (m : Place8) (s : State)

theorem incPlace8_eq :
    let r := aluInc s.policy (s.placeValue m) s.f
    incPlace8 m s = s.replacePlace m r.1 r.2 (tIncDec s.policy m) := by
  cases m <;> rfl

theorem decPlace8_eq :
    let r := aluDec s.policy (s.placeValue m) s.f
    decPlace8 m s = s.replacePlace m r.1 r.2 (tIncDec s.policy m) := by
  cases m <;> rfl

end

section
variable (p : Policy) (v : Byte) (f : Flags)

theorem halfAdd_one_iff : halfAdd v 1#8 false = true ↔ v.toNat % 16 = 15 := by
  rw [halfAdd_iff]
  simp
  omega

theorem halfSub_one_iff : halfSub v 1#8 false = true ↔ v.toNat % 16 = 0 := by
  rw [halfSub_iff]
  simp

/-- Adding 1 overflows only above 7F. -/
theorem overflowAdd_one_iff : overflowAdd v 1#8 (v + 1#8) = true ↔ v = 0x7F#8 := by
  rw [overflowAdd_iff (by decide) (cin := false) (by simp [BitVec.toNat_add])]
  have hv := v.isLt
  simp only [OutOfRange, BitVec.toInt_eq_toNat_cond, BitVec.toNat_eq, Bool.toNat_false, BitVec.toNat_ofNat]
  split <;> omega

/-- Subtracting 1 overflows only below 80. -/
theorem overflowSub_one_iff : overflowSub v 1#8 (v - 1#8) = true ↔ v = 0x80#8 := by
  have hv := v.isLt
  rw [overflowSub_iff (by decide) (bin := false) (by rw [BitVec.toNat_sub]; simp; omega)]
  simp only [OutOfRange, BitVec.toInt_eq_toNat_cond, BitVec.toNat_eq, Bool.toNat_false, BitVec.toNat_ofNat]
  split <;> omega

end

/-- Settles O35. -/
theorem incrementResult : Obligations.IncrementResult := by
  intro m s hwf v
  have hrow := isRow_inc8 m
  have hexec := (Performs.inc8 m).exec_of_wf (wf_of_isRow hrow (Place8.wf_eq m ▸ hwf))
  rw [incPlace8_eq] at hexec
  refine ⟨hrow, _, v + 1#8, hexec, ?value, State.replacePlace_wrotePlace .., ?half, ?zeroSign, ?z80, ?i8080,
    ?carry, ?undocumented, State.replacePlace_accesses ..⟩
  case value => simp [BitVec.toNat_add]
  case half => simpa [aluInc] using halfAdd_one_iff v
  case zeroSign => exact zeroSign_of_eq (by simp [aluInc, v]) (by simp [aluInc, v])
  case z80 => intro hp; exact ⟨by simpa [aluInc, hp] using overflowAdd_one_iff v, by simp [aluInc, hp]⟩
  case i8080 => intro hp; exact ⟨by simpa [aluInc, hp] using parity8_iff (v + 1#8), by simp [aluInc, hp]⟩
  case carry => simp [aluInc]
  case undocumented => exact ⟨by simp [aluInc], by simp [aluInc]⟩

/-- Settles O36. -/
theorem decrementResult : Obligations.DecrementResult := by
  intro m s hwf v
  have hrow := isRow_dec8 m
  have hexec := (Performs.dec8 m).exec_of_wf (wf_of_isRow hrow (Place8.wf_eq m ▸ hwf))
  rw [decPlace8_eq] at hexec
  refine ⟨hrow, _, v - 1#8, hexec, ?value, State.replacePlace_wrotePlace .., ?half, ?zeroSign, ?z80, ?i8080,
    ?carry, ?undocumented, State.replacePlace_accesses ..⟩
  case value => rw [BitVec.toNat_sub, Nat.add_comm]; rfl
  case half => simpa [aluDec] using halfSub_one_iff v
  case zeroSign => exact zeroSign_of_eq (by simp [aluDec, v]) (by simp [aluDec, v])
  case z80 => intro hp; exact ⟨by simpa [aluDec, hp] using overflowSub_one_iff v, by simp [aluDec, hp]⟩
  case i8080 => intro hp; exact ⟨by simpa [aluDec, hp] using parity8_iff (v - 1#8), by simp [aluDec, hp]⟩
  case carry => simp [aluDec]
  case undocumented => exact ⟨by simp [aluDec], by simp [aluDec]⟩

/-! ### The prefixed rotates and shifts (R145 to R152) -/

/-- Settles O39: the byte rotated in exact arithmetic, with the full flag tail. -/
theorem prefixedRotateResult : Obligations.PrefixedRotateResult := by
  intro op m s hp v
  have hexec := (Performs.rot op m).exec_of_wf (s := s) (by rw [hp]; rfl)
  have heq : rotatePlace op m s = s.replacePlace m (rotateByte op v s.f.c).1
      (s.f.rot s.policy (rotateByte op v s.f.c).1 (rotateByte op v s.f.c).2) (tRotate m) :=
    rotatePlace_eq op m s
  rw [heq] at hexec
  refine ⟨isRow_rot m op, _, _, hexec, rotateByte_toNat op v s.f.c, State.replacePlace_wrotePlace .., ?flags,
    ?zeroSign, ?parity, State.replacePlace_accesses ..⟩
  case flags =>
    rw [State.replacePlace_f, ← rotateByte_out op v s.f.c]
    exact Flags.rotA_rotateFlags ..
  case zeroSign => exact zeroSign_of_eq (by rw [State.replacePlace_f]; rfl) (by rw [State.replacePlace_f]; rfl)
  case parity => rw [State.replacePlace_f]; exact parity8_iff _

/-! ### 16-bit arithmetic (45) -/

/-- A 16-bit operation that writes the flags and HL, IX or IY: the pair and nothing else, and no access. -/
theorem State.setBase_wrotePair (x : Base16) (w : Word) (f : Flags) (k : Nat) (s : State) :
    WrotePair (basePair x) w s ((({ s with f := f } : State).setBase x w).charge k) ∧
      Accesses [] s ((({ s with f := f } : State).setBase x w).charge k) := by
  have hset : ({ s with f := f } : State).setBase x w = ({ s with f := f } : State).setPair (basePair x) w := by
    cases x <;> rfl
  rw [hset]
  exact ⟨State.charge_setPair_wrotePair (basePair x) w k { s with f := f },
    State.charge_setPair_accesses (basePair x) w k { s with f := f }⟩

/-- Settles O43. -/
theorem pairAdditionResult : Obligations.PairAdditionResult := by
  intro x q s hwf a b
  have hrow := isRow_add16 x q
  have hexec := (Performs.add16 x q).exec_of_wf (wf_of_isRow hrow (Base16.wf_eq x ▸ hwf))
  have hf : (addPair x q s).f = (aluAddPair s.policy a b s.f).2 := by cases x <;> rfl
  obtain ⟨hpair, haccesses⟩ := State.setBase_wrotePair x (a + b) (aluAddPair s.policy a b s.f).2
    (tAddPair s.policy x) s
  refine ⟨hrow, _, a + b, hexec, BitVec.toNat_add a b, hpair, ?carry, ?z80, ?i8080, ?zero, ?sign, ?parity,
    ?undocumented, haccesses⟩
  all_goals rw [hf]
  case carry => cases s.policy <;> simpa [aluAddPair] using carryAdd_iff a b false
  case z80 => intro hp; rw [hp]; exact ⟨by simpa [aluAddPair] using halfAdd_iff a b false, rfl⟩
  case i8080 => intro hp; rw [hp]; exact ⟨rfl, rfl⟩
  case zero | sign | parity => cases s.policy <;> rfl
  case undocumented => cases s.policy <;> exact ⟨rfl, rfl⟩

/-- Settles O44: both are the 16-bit primitives with the carry flag. -/
theorem pairCarryArithmeticResult : Obligations.PairCarryArithmeticResult := by
  intro q s hp b
  refine ⟨isRow_adc16 q, isRow_sbc16 q, ?adc, ?sbc⟩
  case adc =>
    have hexec := (Performs.adc16 q).exec_of_wf (s := s) (by rw [hp]; rfl)
    obtain ⟨hpair, haccesses⟩ := State.setBase_wrotePair .hl (aluAdd s.policy s.hl b s.f.c s.f).1
      (aluAdd s.policy s.hl b s.f.c s.f).2 tCarryPair s
    refine ⟨_, _, hexec, aluAdd_toNat .., hpair, ?_, haccesses⟩
    rw [← hp]
    exact aluAdd_sumFlags _ _ _ (by decide) _ _
  case sbc =>
    have hexec := (Performs.sbc16 q).exec_of_wf (s := s) (by rw [hp]; rfl)
    obtain ⟨hpair, haccesses⟩ := State.setBase_wrotePair .hl (aluSub s.policy s.hl b s.f.c s.f).1
      (aluSub s.policy s.hl b s.f.c s.f).2 tCarryPair s
    refine ⟨_, _, hexec, ?_, hpair, ?_, aluSub_keepsUndocumented .., haccesses⟩
    · have hdiff := aluSub_toNat s.policy s.hl b s.f.c s.f
      have hb := b.isLt
      have hc := s.f.c.toNat_le
      norm_num at hdiff
      omega
    · rw [← hp]
      exact aluSub_differenceFlags _ _ _ (by decide) _ _

end Sys2Proof.Machine
end

section
/-! SUPPORT. The packed flag byte (10_state.md R27), and DAA with what it is for (44 R160). -/

namespace Sys2Proof.Machine

open Sys2Proof.Claims

/-! ### The packed flag byte (R27) -/

/-- Eight bits weighted by their positions are the bits of the byte. -/
theorem weighted_getLsbD : ∀ s z x h y v n c : Bool,
    let b : Byte := BitVec.ofNat 8 (128 * s.toNat + 64 * z.toNat + 32 * x.toNat + 16 * h.toNat +
      8 * y.toNat + 4 * v.toNat + 2 * n.toNat + c.toNat)
    b.getLsbD 7 = s ∧ b.getLsbD 6 = z ∧ b.getLsbD 5 = x ∧ b.getLsbD 4 = h ∧ b.getLsbD 3 = y ∧
      b.getLsbD 2 = v ∧ b.getLsbD 1 = n ∧ b.getLsbD 0 = c := by
  decide

theorem Flags.toByte_flagBits (p : Policy) (f : Flags) : FlagBits p (f.toByte p) f := by
  cases p with
  | z80 =>
    obtain ⟨h7, h6, h5, h4, h3, h2, h1, h0⟩ := weighted_getLsbD f.s f.z f.f5 f.h f.f3 f.pv f.n f.c
    exact ⟨h7, h6, h4, h2, h0, fun _ => ⟨h5, h3, h1⟩, (nomatch ·)⟩
  | i8080 =>
    obtain ⟨h7, h6, h5, h4, h3, h2, h1, h0⟩ := weighted_getLsbD f.s f.z false f.h false f.pv true f.c
    exact ⟨h7, h6, h4, h2, h0, (nomatch ·), fun _ => ⟨h5, h3, h1⟩⟩

theorem Flags.ofByte_loadsFlags (p : Policy) (b : Byte) (f : Flags) : LoadsFlags p b f (f.ofByte p b) := by
  cases p with
  | z80 => exact ⟨rfl, rfl, rfl, rfl, rfl, fun _ => ⟨rfl, rfl, rfl⟩, (nomatch ·)⟩
  | i8080 => exact ⟨rfl, rfl, rfl, rfl, rfl, (nomatch ·), fun _ => ⟨rfl, rfl, rfl⟩⟩

/-- Two bytes with the same eight bits are equal. -/
theorem Byte.ext_bits {a b : Byte} (h7 : a.getLsbD 7 = b.getLsbD 7) (h6 : a.getLsbD 6 = b.getLsbD 6)
    (h5 : a.getLsbD 5 = b.getLsbD 5) (h4 : a.getLsbD 4 = b.getLsbD 4) (h3 : a.getLsbD 3 = b.getLsbD 3)
    (h2 : a.getLsbD 2 = b.getLsbD 2) (h1 : a.getLsbD 1 = b.getLsbD 1)
    (h0 : a.getLsbD 0 = b.getLsbD 0) : a = b := by
  refine BitVec.eq_of_getLsbD_eq fun k hk => ?_
  interval_cases k <;> assumption

theorem Flags.toByte_ofByte_z80 (b : Byte) (f : Flags) : (f.ofByte .z80 b).toByte .z80 = b := by
  obtain ⟨h7, h6, h4, h2, h0, hz80, -⟩ := Flags.toByte_flagBits .z80 (f.ofByte .z80 b)
  obtain ⟨h5, h3, h1⟩ := hz80 rfl
  exact Byte.ext_bits h7 h6 h5 h4 h3 h2 h1 h0

theorem Flags.toByte_ofByte_i8080 (b : Byte) (f : Flags) :
    (f.ofByte .i8080 b).toByte .i8080 = (b &&& 0xD5#8) ||| 0x02#8 := by
  obtain ⟨h7, h6, h4, h2, h0, -, hi8080⟩ := Flags.toByte_flagBits .i8080 (f.ofByte .i8080 b)
  obtain ⟨h5, h3, h1⟩ := hi8080 rfl
  refine Byte.ext_bits (h7.trans ?_) (h6.trans ?_) (h5.trans ?_) (h4.trans ?_) (h3.trans ?_)
    (h2.trans ?_) (h1.trans ?_) (h0.trans ?_) <;> simp [Flags.ofByte]

theorem Flags.ofByte_toByte (p : Policy) (f : Flags) : f.ofByte p (f.toByte p) = f := by
  obtain ⟨h7, h6, h4, h2, h0, hz80, -⟩ := Flags.toByte_flagBits p f
  cases p with
  | z80 =>
    obtain ⟨h5, h3, h1⟩ := hz80 rfl
    simp only [Flags.ofByte, h7, h6, h5, h4, h3, h2, h1, h0]
  | i8080 => simp only [Flags.ofByte, h7, h6, h4, h2, h0]

/-- Settles O27: under `Z80` the byte holds every flag, so that loading forgets the flags before. -/
theorem packedFlagByte : Obligations.PackedFlagByte :=
  ⟨Flags.toByte_flagBits, Flags.ofByte_loadsFlags, Flags.toByte_ofByte_z80,
    fun f _ => Flags.ofByte_toByte .z80 f, Flags.toByte_ofByte_i8080, Flags.ofByte_toByte .i8080⟩

/-! ### DAA (R160) -/

/-- The correction as a number, from the two conditions. -/
def daaAmount (low high : Bool) : Nat := (if low then 0x06 else 0) + (if high then 0x60 else 0)

/-- The condition of the low correction. -/
def daaLow (a : Byte) (f : Flags) : Bool := decide (9 < a.toNat % 16) || f.h

/-- Carry in is one of the conditions of carry out. -/
theorem daaHigh_eq (a : Byte) (f : Flags) :
    daaHigh a f =
      (decide (9 < a.toNat / 16) || f.c || decide (9 < a.toNat % 16 ∧ 8 < a.toNat / 16)) := by
  simp [daaHigh, Bool.or_assoc]

theorem aluDaa_c (p : Policy) (a : Byte) (f : Flags) : (aluDaa p a f).2.c = daaHigh a f := by
  have hle : f.c = true → daaHigh a f = true := by intro hc; simp [daaHigh, hc]
  cases hc : f.c with
  | false => simp [aluDaa, hc]
  | true => simp [aluDaa, hle hc]

theorem daaCorrection_toNat (a : Byte) (f : Flags) :
    (daaCorrection a f).toNat = daaAmount (daaLow a f) (daaHigh a f) := by
  simp only [daaCorrection, daaAmount, daaLow, daaHigh, BitVec.toNat_ofNat, Bool.or_eq_true, decide_eq_true_eq,
    gt_iff_lt]
  split <;> split <;> rfl

theorem daaSubtracts_eq (p : Policy) (f : Flags) : daaSubtracts p f = (p == .z80 && f.n) := by
  cases p <;> rfl

/-- Settles O40. -/
theorem decimalAdjustResult : Obligations.DecimalAdjustResult := by
  intro s lo hi low high corr subtract
  have hcorr : (daaCorrection s.a s.f).toNat = corr := by
    rw [daaCorrection_toNat, daaHigh_eq]
    rfl
  have hlt : corr < 256 := hcorr ▸ (daaCorrection s.a s.f).isLt
  have hsub : daaSubtracts s.policy s.f = subtract := daaSubtracts_eq _ _
  have ha : (decimalAdjust s).a = (aluDaa s.policy s.a s.f).1 := rfl
  have hf : (decimalAdjust s).f = (aluDaa s.policy s.a s.f).2 := rfl
  refine ⟨isRow_daa, _, rfl, ?value, ?carry, ?half, ?zeroSign, ?parity, rfl, ⟨rfl, rfl⟩,
    ⟨rfl, rfl, fun _ _ => rfl⟩, ?accesses⟩
  case value =>
    rw [ha]
    simp only [aluDaa, hsub]
    split
    · rw [BitVec.toNat_sub, hcorr]; omega
    · rw [BitVec.toNat_add, hcorr]
  case carry => rw [hf, aluDaa_c, daaHigh_eq]
  case half =>
    rw [hf]
    simp only [aluDaa, hsub]
    split
    · rw [halfSub_iff, hcorr]; rfl
    · rw [halfAdd_iff, hcorr]; rfl
  case zeroSign => exact zeroSign_of_eq rfl rfl
  case parity => exact parity8_iff _
  case accesses => simp [Accesses, decimalAdjust]

/-! ### What DAA is for (R160) -/

/-- A number below 100 and its packed byte, by their digits. -/
theorem exists_digits {x : Nat} (h : x < 100) :
    ∃ t o, t ≤ 9 ∧ o ≤ 9 ∧ x = 10 * t + o ∧ (bcd x).toNat = 16 * t + o := by
  refine ⟨x / 10, x % 10, by omega, by omega, by omega, ?_⟩
  simp only [bcd, BitVec.toNat_ofNat]
  omega

/-- The instruction leaves the policy alone. -/
theorem policy_of_onlyAF {s t : State} (h : OnlyAF s t) : t.policy = s.policy := by rw [h.1]

section
variable {xt xo yt yo a : Nat} {c h : Bool} (hxt : xt ≤ 9) (hxo : xo ≤ 9) (hyt : yt ≤ 9) (hyo : yo ≤ 9)
include hxt hxo hyt hyo

/-- After the sum of two packed numbers the conditions of the corrections are the decimal carries. -/
theorem daa_conditions_of_sum (ha : a = (16 * xt + xo + (16 * yt + yo)) % 256)
    (hc : c = true ↔ 256 ≤ 16 * xt + xo + (16 * yt + yo)) (hh : h = true ↔ 16 ≤ xo + yo) :
    (decide (9 < a % 16) || h) = decide (10 ≤ xo + yo) ∧
      (decide (9 < a / 16) || c || decide (9 < a % 16 ∧ 8 < a / 16)) =
        decide (100 ≤ 10 * xt + xo + (10 * yt + yo)) := by
  constructor <;> rw [Bool.eq_iff_iff] <;>
    simp only [Bool.or_eq_true, decide_eq_true_eq, hc, hh] <;> omega

/-- After the difference of two packed numbers the conditions of the corrections are the decimal borrows. -/
theorem daa_conditions_of_difference (ha : a = (16 * xt + xo + 512 - (16 * yt + yo)) % 256)
    (hc : c = true ↔ 16 * xt + xo < 16 * yt + yo) (hh : h = true ↔ xo < yo) :
    (decide (9 < a % 16) || h) = decide (xo < yo) ∧
      (decide (9 < a / 16) || c || decide (9 < a % 16 ∧ 8 < a / 16)) =
        decide (10 * xt + xo < 10 * yt + yo) := by
  constructor <;> rw [Bool.eq_iff_iff] <;>
    simp only [Bool.or_eq_true, decide_eq_true_eq, hc, hh] <;> omega

section
variable {t o : Nat} (ht : t ≤ 9) (ho : o ≤ 9)
include ht ho

/-- With those corrections the sum of the bytes is the packed decimal sum. -/
theorem daa_sum (ha : a = (16 * xt + xo + (16 * yt + yo)) % 256)
    (hsum : (10 * xt + xo + (10 * yt + yo)) % 100 = 10 * t + o) :
    (a + ((if 10 ≤ xo + yo then 6 else 0) + (if 100 ≤ 10 * xt + xo + (10 * yt + yo) then 96 else 0))) % 256 =
      16 * t + o := by
  have hones : o = (xo + yo) % 10 := by omega
  have htens : t = (xt + yt + (xo + yo) / 10) % 10 := by omega
  clear hsum
  split_ifs <;> omega

/-- With those corrections the difference of the bytes is the packed decimal difference. -/
theorem daa_difference (ha : a = (16 * xt + xo + 512 - (16 * yt + yo)) % 256)
    (hdifference : (10 * xt + xo + 100 - (10 * yt + yo)) % 100 = 10 * t + o) :
    (a + 256 - ((if xo < yo then 6 else 0) + (if 10 * xt + xo < 10 * yt + yo then 96 else 0))) % 256 =
      16 * t + o := by
  have hones : o = (xo + 10 - yo) % 10 := by omega
  have htens : t = (xt + 9 - yt + (xo + 10 - yo) / 10) % 10 := by omega
  clear hdifference
  split_ifs <;> omega

end

end

/-- Settles O41: the conditions of the two corrections are the decimal carries of the two digits. -/
theorem daaCorrectsBcdAddition : Obligations.DaaCorrectsBcdAddition := by
  intro x y s hx hy hs
  obtain ⟨xt, xo, hxt, hxo, rfl, hbx⟩ := exists_digits hx
  obtain ⟨yt, yo, hyt, hyo, rfl, hby⟩ := exists_digits hy
  obtain ⟨st, so, hst, hso, hsum, hbs⟩ :=
    exists_digits (Nat.mod_lt (10 * xt + xo + (10 * yt + yo)) (by decide : 0 < 100))
  obtain ⟨-, t, hadd, ha, ⟨hc, hh, -, hz80, -⟩, hframe, -⟩ :=
    addAndAdcResult false (.imm (bcd (10 * yt + yo))) s rfl
  obtain ⟨-, u, hdaa, hu, hcarry, -⟩ := decimalAdjustResult t
  have hadds : (t.policy == .z80 && t.f.n) = false := by
    rw [policy_of_onlyAF hframe]
    cases hp : s.policy with
    | z80 => simp [(hz80 hp).2]
    | i8080 => rfl
  simp only [State.srcValue, hs, hbx, hby, Bool.false_and, Bool.toNat_false] at ha hc hh
  obtain ⟨hlow, hhigh⟩ := daa_conditions_of_sum hxt hxo hyt hyo ha hc (hh.trans (by omega))
  refine ⟨t, u, hadd, hdaa, BitVec.eq_of_toNat_eq ?_, ?_⟩
  · rw [hu, hadds, hlow, hhigh, hbs]
    simpa using daa_sum hxt hxo hyt hyo hst hso ha hsum
  · rw [hcarry, hhigh, decide_eq_true_eq]

/-- Settles O42: the conditions of the two corrections are the decimal borrows of the two digits. -/
theorem daaCorrectsBcdSubtraction : Obligations.DaaCorrectsBcdSubtraction := by
  intro x y s hp hx hy hs
  obtain ⟨xt, xo, hxt, hxo, rfl, hbx⟩ := exists_digits hx
  obtain ⟨yt, yo, hyt, hyo, rfl, hby⟩ := exists_digits hy
  obtain ⟨dt, d, hdt, hd, hdiff, hbd⟩ :=
    exists_digits (Nat.mod_lt (10 * xt + xo + 100 - (10 * yt + yo)) (by decide : 0 < 100))
  obtain ⟨-, t, hsub, ha, ⟨hc, hh, -, hz80, -⟩, -, hframe, -⟩ :=
    subAndSbcResult false (.imm (bcd (10 * yt + yo))) s rfl
  obtain ⟨-, u, hdaa, hu, hcarry, -⟩ := decimalAdjustResult t
  have hsubs : (t.policy == .z80 && t.f.n) = true := by
    rw [policy_of_onlyAF hframe, hp, (hz80 hp).2]
    rfl
  simp only [State.srcValue, hs, hbx, hby, Bool.false_and, Bool.toNat_false] at ha hc hh
  obtain ⟨hlow, hhigh⟩ :=
    daa_conditions_of_difference hxt hxo hyt hyo ha hc (hh.trans (by omega))
  refine ⟨t, u, hsub, hdaa, BitVec.eq_of_toNat_eq ?_, ?_⟩
  · rw [hu, hsubs, hlow, hhigh, hbd]
    simpa using daa_difference hxt hxo hyt hyo hdt hd ha hdiff
  · rw [hcarry, hhigh, decide_eq_true_eq]

end Sys2Proof.Machine
end

section
/-! SUPPORT. Branch, call and return (46) and the stack (47): what a push, a pop and an exchange do, each said once,
and from them the results, the round trips and the counts of 70 R233. -/

namespace Sys2Proof.Machine

open Sys2Proof.Claims

/-! ### Conditions (46 R175) -/

theorem Flags.holds_iff_tests (f : Flags) (cc : Cond) : f.holds cc = true ↔ Tests f cc := by
  cases cc <;> simp [Flags.holds, Tests]

theorem Flags.holds_of_tests {f : Flags} {cc : Cond} (h : Tests f cc) : f.holds cc = true :=
  (f.holds_iff_tests cc).2 h

theorem Flags.holds_of_not_tests {f : Flags} {cc : Cond} (h : ¬ Tests f cc) : f.holds cc = false :=
  Bool.eq_false_iff.2 fun hholds => h ((f.holds_iff_tests cc).1 hholds)

/-! ### Push and pop (20_memory.md R65, R66) -/

section
variable (w : Word) (s : State)

theorem State.push16_pushed : Pushed w s (s.push16 w) := by
  obtain ⟨hout, hhistory⟩ := s.push16_accesses w
  refine ⟨rfl, rfl, fun x hx => ?_, congrArg Outputs.bus hout, hhistory⟩
  have hne := Word.sub_one_ne_sub_two s.sp
  rw [State.byteAt_push16 w hx]
  by_cases hram : s.kindAt x = .ram
  · by_cases hlow : x = s.sp - 2#16 <;> by_cases hhigh : x = s.sp - 1#16 <;> simp_all
  · simp [hram]

/-- The second read of a pop finds the first among the accesses that holes and devices have answered. -/
theorem topHigh_eq : topHigh s = (s.memRead s.sp).2.byteAt (s.sp + 1#16) := by
  have hseen := (s.historyAfter_spec (.memRead s.sp (topLow s))).symm
  exact State.byteAt_eq_of (s := (s.memRead s.sp).2)
    (t := { s with envHistory := s.envHistory ++ [Access.memRead s.sp (topLow s)].filter s.outside })
    rfl rfl hseen _

theorem State.wordAt_sp : s.wordAt s.sp = wordOf (topHigh s) (topLow s) := by
  rw [topHigh_eq]
  rfl

theorem State.wordAt_sp_toNat : (s.wordAt s.sp).toNat = (topHigh s).toNat * 256 + (topLow s).toNat := by
  rw [State.wordAt_sp, wordOf_toNat]

theorem State.pop16_popped : Popped s s.pop16.2 := by
  obtain ⟨hout, hhistory⟩ := s.pop16_accesses
  refine ⟨rfl, ⟨rfl, fun x hx => State.byteAt_congr rfl rfl hx⟩, ?_⟩
  rw [topReads, topHigh_eq]
  exact ⟨congrArg Outputs.bus hout, hhistory⟩

end

/-! ### Jumps, calls and returns (46) -/

/-- Settles O45. -/
theorem jumpResult : Obligations.JumpResult := by
  intro cc nn s
  have hexec := (Performs.jpCond cc nn).exec_of_wf (s := s) (wf_of_isRow (isRow_jpCond cc nn) rfl)
  refine ⟨isRow_jp nn, isRow_jpCond cc nn, rfl, fun h => ?_, fun h => ?_⟩
  · rw [hexec, jumpIf_taken nn (Flags.holds_of_tests h)]
    rfl
  · rw [hexec, jumpIf_not_taken nn (Flags.holds_of_not_tests h)]
    rfl

/-- What a call makes of a state, whatever it costs. -/
theorem State.pushJump_call (nn : Word) (k : Nat) (s : State) :
    let t := (s.pushJump nn).charge k
    Pushed s.pc s t ∧ t.pc = nn ∧ t.out.cycles = some k ∧ OnlyCalls s t :=
  ⟨State.push16_pushed s.pc s, rfl, rfl, rfl⟩

/-- Settles O46. -/
theorem callResult : Obligations.CallResult := by
  intro cc nn s
  have hexec := (Performs.callCond cc nn).exec_of_wf (s := s) (wf_of_isRow (isRow_callCond cc nn) rfl)
  refine ⟨isRow_call nn, isRow_callCond cc nn, ⟨_, rfl, s.pushJump_call nn tCall⟩, fun h => ?_,
    fun h => ?_⟩
  · rw [callIf_taken nn (Flags.holds_of_tests h)] at hexec
    exact ⟨_, hexec, s.pushJump_call nn _⟩
  · rw [hexec, callIf_not_taken nn (Flags.holds_of_not_tests h)]
    cases hp : s.policy <;> simp [State.charge, tCallIf, perPolicy, hp]

/-- What a return makes of a state, whatever it costs. -/
theorem State.popPC_return (k : Nat) (s : State) :
    let t := s.popPC.charge k
    Popped s t ∧ t.pc.toNat = (topHigh s).toNat * 256 + (topLow s).toNat ∧ t.out.cycles = some k ∧
      OnlyReturns s t :=
  ⟨s.pop16_popped, s.wordAt_sp_toNat, rfl, rfl⟩

/-- Settles O47. -/
theorem returnResult : Obligations.ReturnResult := by
  intro cc s
  have hexec := (Performs.retCond cc).exec_of_wf (s := s) (wf_of_isRow (isRow_retCond cc) rfl)
  refine ⟨isRow_ret, isRow_retCond cc, ⟨_, rfl, s.popPC_return tReturn⟩, fun h => ?_, fun h => ?_⟩
  · rw [returnIf_taken (Flags.holds_of_tests h)] at hexec
    exact ⟨_, hexec, s.popPC_return _⟩
  · rw [hexec, returnIf_not_taken (Flags.holds_of_not_tests h)]
    rfl

theorem restartTarget_toNat (k : Fin 8) : (restartTarget k).toNat = 8 * k.val := by
  fin_cases k <;> rfl

/-- Settles O48. -/
theorem restartResult : Obligations.RestartResult := by
  intro k s
  have hexec := (Performs.rst k).exec_of_wf (s := s) (wf_of_isRow (isRow_rst k) rfl)
  obtain ⟨hpushed, hpc, hcycles, hframe⟩ := s.pushJump_call (restartTarget k) tRestart
  exact ⟨isRow_rst k, _, hexec, hpushed, hpc ▸ restartTarget_toNat k, hcycles, hframe⟩

/-- Settles O49: the return pops the word that the call pushed. -/
theorem returnAfterCallRestores : Obligations.ReturnAfterCallRestores := by
  intro nn s t u h1 h2 hcall hsp henv hbytes
  cases hcall
  have hsp' : u.sp = s.sp - 2#16 := hsp
  have hkind : u.kindAt u.sp = .ram := by
    rw [hsp', State.kindAt_congr henv]
    exact h2
  refine ⟨_, rfl, ?_, ?_⟩
  · have hpushed := State.wordAt_push16 s.pc h1 h2
    have hmemory : ((s.push16 s.pc).kindAt (s.sp - 2#16)).isMemory = true := MemKind.isMemory_of_ram h2
    rw [State.wordAt_of_memory hmemory] at hpushed
    have hlow : u.byteAt u.sp = (s.push16 s.pc).byteAt (s.sp - 2#16) := hsp' ▸ hbytes u.sp (.inl hsp)
    have hhigh : u.byteAt (u.sp + 1#16) = (s.push16 s.pc).byteAt (s.sp - 2#16 + 1#16) :=
      hsp' ▸ hbytes (u.sp + 1#16) (.inr (by rw [hsp]))
    calc u.wordAt u.sp = wordOf (u.byteAt (u.sp + 1#16)) (u.byteAt u.sp) :=
          State.wordAt_of_memory (MemKind.isMemory_of_ram hkind)
      _ = s.pc := by rw [hlow, hhigh, hpushed]
  · show u.sp + 2#16 = s.sp
    rw [hsp']
    bv_omega

/-! ### PUSH and POP (47 R190 to R193) -/

/-- Settles O50. -/
theorem pushResult : Obligations.PushResult := by
  intro q s hwf
  have hrow := isRow_push q
  have hexec := (Performs.push q).exec_of_wf (wf_of_isRow hrow (StackReg.wf_eq q ▸ hwf))
  refine ⟨hrow, _, s.stackReg q, hexec, State.push16_pushed _ s, fun k hk => ?_, fun haf => ?_, rfl⟩
  · simp only [List.mem_cons, Prod.mk.injEq, List.not_mem_nil, or_false] at hk
    obtain ⟨rfl, rfl⟩ | ⟨rfl, rfl⟩ | ⟨rfl, rfl⟩ | ⟨rfl, rfl⟩ | ⟨rfl, rfl⟩ := hk <;> rfl
  · subst haf
    refine ⟨hi8_wordOf _ _, ?_⟩
    rw [State.stackReg, State.af, lo8_wordOf]
    exact Flags.toByte_flagBits s.policy s.f

/-- The five pairs that PUSH and POP share with INC and DEC. -/
def stackPairs : List (StackReg × Pair16) := [(.bc, .bc), (.de, .de), (.hl, .hl), (.ix, .ix), (.iy, .iy)]

/-- Every one of the five pairs after POP wrote an operand. -/
theorem State.pair_setStackReg {k : StackReg × Pair16} (hk : k ∈ stackPairs) (q : StackReg) (w : Word)
    (s : State) : (s.setStackReg q w).pair k.2 = if k.1 = q then w else s.pair k.2 := by
  simp only [stackPairs, List.mem_cons, List.not_mem_nil, or_false] at hk
  obtain rfl | rfl | rfl | rfl | rfl := hk <;> cases q <;>
    simp [State.setStackReg, State.pair, State.bc, State.de, State.hl]

/-- Settles O51. -/
theorem popResult : Obligations.PopResult := by
  intro q s hwf
  have hrow := isRow_pop q
  have hexec := (Performs.pop q).exec_of_wf (wf_of_isRow hrow (StackReg.wf_eq q ▸ hwf))
  obtain ⟨hsp, hmemory, haccesses⟩ := s.pop16_popped
  refine ⟨hrow, _, s.wordAt s.sp, hexec, ⟨?sp, ?memory, ?accesses⟩, s.wordAt_sp_toNat, ?pairs, ?af,
    ?others, ?rest⟩
  case sp => simp [popReg]
  case memory =>
    have henv : (popReg q s).env = s.env := by simp [popReg]
    exact ⟨henv, fun x hx => State.byteAt_congr henv (by simp [popReg]) hx⟩
  case accesses => simpa [Accesses, popReg] using haccesses
  case pairs =>
    intro k hk
    have hpair : (popReg q s).pair k.2 = (s.pop16.2.setStackReg q s.pop16.1).pair k.2 := by
      cases k.2 <;> rfl
    have hpop : s.pop16.2.pair k.2 = s.pair k.2 := by
      simp only [List.mem_cons, List.not_mem_nil, or_false] at hk
      obtain rfl | rfl | rfl | rfl | rfl := hk <;> rfl
    rw [hpair, State.pair_setStackReg hk, hpop, State.pop16_fst]
  case af => rintro rfl; exact ⟨rfl, Flags.ofByte_loadsFlags ..⟩
  case others =>
    intro hq
    cases q with
    | af => exact absurd rfl hq
    | _ => exact ⟨rfl, rfl⟩
  case rest => simp [popReg]

/-- Writing an operand what it holds changes nothing. -/
theorem State.setStackReg_stackReg (q : StackReg) (s : State) : s.setStackReg q (s.stackReg q) = s := by
  cases q <;> simp [State.setStackReg, State.stackReg, State.setBC, State.setDE, State.setHL, State.bc, State.de,
    State.hl, State.af, Flags.ofByte_toByte]

/-- RAM leaves nothing of an access behind for a hole or a device to remember. -/
theorem State.filter_outside_of_ram {s : State} {l : List Access}
    (h : ∀ a ∈ l, s.outside a = false) : l.filter s.outside = [] :=
  List.filter_eq_nil_iff.2 fun a ha => by simp [h a ha]

theorem State.outside_ram {s : State} {x : Word} (h : s.kindAt x = .ram) (v : Byte) :
    s.outside (.memRead x v) = false ∧ s.outside (.memWrite x v) = false := by
  simp [State.outside, h, MemKind.isMemory]

/-! ### Round trips on RAM (20_memory.md R66, 47 R194) -/

section
variable {s : State}

/-- Where the two bytes below SP are RAM, a push leaves nothing for a hole or a device to remember. -/
theorem State.push16_envHistory_of_ram (w : Word) (h1 : s.kindAt (s.sp - 1#16) = .ram)
    (h2 : s.kindAt (s.sp - 2#16) = .ram) : (s.push16 w).envHistory = s.envHistory := by
  obtain ⟨-, hhistory⟩ := s.push16_accesses w
  rw [hhistory, State.filter_outside_of_ram, List.append_nil]
  simp [State.outside_ram h1, State.outside_ram h2]

/-- Where the two bytes at SP are RAM, a pop leaves nothing for a hole or a device to remember. -/
theorem State.pop16_envHistory_of_ram (h1 : s.kindAt s.sp = .ram)
    (h2 : s.kindAt (s.sp + 1#16) = .ram) : s.pop16.2.envHistory = s.envHistory := by
  obtain ⟨-, hhistory⟩ := s.pop16_accesses
  rw [hhistory, State.filter_outside_of_ram, List.append_nil]
  simp [State.outside_ram h1, State.outside_ram h2]

/-- A pop after a push on RAM leaves everything but memory and the outputs as it was before the push. -/
theorem State.pop16_push16 (w : Word) (h1 : s.kindAt (s.sp - 1#16) = .ram)
    (h2 : s.kindAt (s.sp - 2#16) = .ram) :
    (s.push16 w).pop16 =
      (w, { s with mem := (s.push16 w).mem, out := (s.push16 w).pop16.2.out }) := by
  have hnext : s.sp - 2#16 + 1#16 = s.sp - 1#16 := by bv_omega
  have hsp : s.sp - 2#16 + 2#16 = s.sp := by bv_omega
  have hhistory : (s.push16 w).pop16.2.envHistory = s.envHistory :=
    (State.pop16_envHistory_of_ram (s := s.push16 w) h2 (by rw [State.push16_sp, hnext]; exact h1)).trans
      (State.push16_envHistory_of_ram w h1 h2)
  have hframe : (s.push16 w).pop16.2 =
      { s with
        sp := s.sp - 2#16 + 2#16
        mem := (s.push16 w).mem
        out := (s.push16 w).pop16.2.out
        envHistory := (s.push16 w).pop16.2.envHistory } := rfl
  rw [hsp, hhistory] at hframe
  exact Prod.ext (State.wordAt_push16 w h1 h2) hframe

/-- A pop does the same to everything but the outputs, whatever the count before it. -/
theorem State.pop16_charge (k : Nat) (s : State) :
    (s.charge k).pop16 = (s.pop16.1, { s.pop16.2 with out := (s.charge k).pop16.2.out }) := rfl

/-- A push on RAM leaves every address but the two bytes below SP as it was, also those of devices. -/
theorem State.byteAt_push16_other {x : Word} (w : Word) (h1 : s.kindAt (s.sp - 1#16) = .ram)
    (h2 : s.kindAt (s.sp - 2#16) = .ram) (hx1 : x ≠ s.sp - 1#16) (hx2 : x ≠ s.sp - 2#16) :
    (s.push16 w).byteAt x = s.byteAt x := by
  cases hx : (s.kindAt x).isMemory with
  | true => rw [State.byteAt_push16 w hx]; simp [hx1, hx2]
  | false =>
    rw [State.byteAt_of_outside hx, State.byteAt_of_outside (s := s.push16 w) hx,
      State.push16_envHistory_of_ram w h1 h2]

end

/-- What PUSH stores depends on neither memory nor the outputs. -/
theorem State.stackReg_congr (q : StackReg) (m : Memory) (o : Outputs) (s : State) :
    State.stackReg { s with mem := m, out := o } q = s.stackReg q := by
  cases q <;> rfl

/-- POP writes the operand what PUSH read from it. -/
theorem popReg_pushReg (q : StackReg) {s : State} (h1 : s.kindAt (s.sp - 1#16) = .ram)
    (h2 : s.kindAt (s.sp - 2#16) = .ram) :
    popReg q (pushReg q s) =
      { s with mem := (s.push16 (s.stackReg q)).mem, out := (popReg q (pushReg q s)).out } := by
  obtain ⟨o, hpop⟩ : ∃ o, (pushReg q s).pop16 =
      (s.stackReg q, { s with mem := (s.push16 (s.stackReg q)).mem, out := o }) :=
    ⟨_, by rw [pushReg, State.pop16_charge, State.pop16_push16 _ h1 h2]⟩
  have hset := State.setStackReg_stackReg q { s with mem := (s.push16 (s.stackReg q)).mem, out := o }
  rw [State.stackReg_congr] at hset
  simp only [popReg, hpop, hset, State.charge]

/-- Settles O52. -/
theorem popAfterPushRestores : Obligations.PopAfterPushRestores := by
  intro q s hwf h1 h2
  have hpush := (Performs.push q).exec_of_wf (wf_of_isRow (isRow_push q) (StackReg.wf_eq q ▸ hwf))
  have hpop := (Performs.pop q).exec_of_wf (s := pushReg q s)
    (wf_of_isRow (isRow_pop q) (StackReg.wf_eq q ▸ hwf))
  have hstate := popReg_pushReg q h1 h2
  refine ⟨_, _, hpush, hpop, ?frame, fun x hx1 hx2 => ?bytes⟩
  case frame => rw [hstate]
  case bytes =>
    rw [← State.byteAt_push16_other (s.stackReg q) h1 h2 hx1 hx2, hstate]
    refine State.byteAt_eq_of ?_ ?_ ?_ x
    · rfl
    · rfl
    · exact (State.push16_envHistory_of_ram _ h1 h2).symm

/-! ### EX (SP) (47 R194, R195) -/

/-- The word at SP becomes `w`, the low byte first, after it was read (D16). -/
def State.replaceTop (w : Word) (s : State) : State :=
  ((s.memRead2 s.sp).2.memWrite s.sp (lo8 w)).memWrite (s.sp + 1#16) (hi8 w)

theorem exchangeTop_eq (x : Base16) (s : State) :
    exchangeTop x s =
      (((s.replaceTop (s.base x)).setBase x (s.wordAt s.sp)).charge (tExchange s.policy x)) := rfl

section
variable (w : Word) (s : State)

theorem State.replaceTop_frame :
    s.replaceTop w =
      { s with
        mem := (s.replaceTop w).mem
        out := (s.replaceTop w).out
        envHistory := (s.replaceTop w).envHistory } := rfl

theorem State.replaceTop_accesses :
    Accesses (topReads s ++ [.memWrite s.sp (lo8 w), .memWrite (s.sp + 1#16) (hi8 w)]) s
      (s.replaceTop w) := by
  have hreads : Accesses (topReads s) s (s.memRead2 s.sp).2 := s.pop16_popped.2.2
  have hwrites := accesses_trans (State.memWrite_accesses s.sp (lo8 w) (s.memRead2 s.sp).2)
    (State.memWrite_accesses (s.sp + 1#16) (hi8 w) _) rfl
  exact accesses_trans hreads hwrites rfl

variable {s}

/-- Where the two bytes at SP are RAM, replacing them leaves nothing for a hole or a device to remember. -/
theorem State.replaceTop_envHistory_of_ram (h1 : s.kindAt s.sp = .ram) (h2 : s.kindAt (s.sp + 1#16) = .ram) :
    (s.replaceTop w).envHistory = s.envHistory := by
  obtain ⟨-, hhistory⟩ := s.replaceTop_accesses w
  rw [hhistory, State.filter_outside_of_ram, List.append_nil]
  simp [topReads, State.outside_ram h1, State.outside_ram h2]

end

theorem State.base_setBase_other {x y : Base16} (h : y ≠ x) (w : Word) (s : State) :
    (s.setBase x w).base y = s.base y := by
  cases x <;> cases y <;> simp [State.setBase, State.base, State.hl] at h ⊢

section
variable (x : Base16) (s : State)

theorem exchangeTop_base : (exchangeTop x s).base x = s.wordAt s.sp :=
  State.base_setBase x (s.wordAt s.sp) (s.replaceTop (s.base x))

theorem exchangeTop_sp : (exchangeTop x s).sp = s.sp :=
  State.setBase_sp x (s.wordAt s.sp) (s.replaceTop (s.base x))

theorem exchangeTop_env : (exchangeTop x s).env = s.env :=
  State.setBase_env x (s.wordAt s.sp) (s.replaceTop (s.base x))

theorem exchangeTop_accesses :
    Accesses (topReads s ++ [.memWrite s.sp (lo8 (s.base x)), .memWrite (s.sp + 1#16) (hi8 (s.base x))]) s
      (exchangeTop x s) := by
  obtain ⟨hbus, hhistory⟩ := s.replaceTop_accesses (s.base x)
  exact ⟨(congrArg Outputs.bus (State.setBase_out ..)).trans hbus,
    (State.setBase_envHistory ..).trans hhistory⟩

variable {s}

/-- Every byte of memory after the exchange: RAM takes the register, the low byte at the lower address. -/
theorem byteAt_exchangeTop {y : Word} (hy : (s.kindAt y).isMemory = true) :
    (exchangeTop x s).byteAt y =
      if s.kindAt y = .ram ∧ y = s.sp then lo8 (s.base x)
      else if s.kindAt y = .ram ∧ y = s.sp + 1#16 then hi8 (s.base x)
      else s.byteAt y :=
  (State.byteAt_setBase (s.wordAt s.sp) (s.replaceTop (s.base x)) x y).trans (State.byteAt_exchange _ _ hy)

end

/-- Settles O53. -/
theorem exchangeResult : Obligations.ExchangeResult := by
  intro x s hwf w
  have hrow := isRow_exSP x
  have hexec := (Performs.exSP x).exec_of_wf (wf_of_isRow hrow (Base16.wf_eq x ▸ hwf))
  refine ⟨hrow, _, hexec, ?word, fun y hy => ?bases, ?bc, ?de, exchangeTop_env x s,
    fun y hy => byteAt_exchangeTop x hy, exchangeTop_accesses x s, ?rest⟩
  case word => exact exchangeTop_base x s ▸ s.wordAt_sp_toNat
  case bases => exact State.base_setBase_other hy (s.wordAt s.sp) (s.replaceTop w)
  case bc => simp [exchangeTop, State.bc]
  case de => simp [exchangeTop, State.de]
  case rest => simp [exchangeTop]

/-! ### EX (SP) twice, on RAM (47 R194) -/

section
variable (x : Base16) {s : State}

/-- On RAM the exchange changes the register, memory and the outputs, and nothing else. -/
theorem exchangeTop_of_ram (h1 : s.kindAt s.sp = .ram) (h2 : s.kindAt (s.sp + 1#16) = .ram) :
    ∃ m o, exchangeTop x s = State.setBase x (s.wordAt s.sp) { s with mem := m, out := o } := by
  have hframe := s.replaceTop_frame (s.base x)
  rw [State.replaceTop_envHistory_of_ram _ h1 h2] at hframe
  refine ⟨(s.replaceTop (s.base x)).mem, (exchangeTop x s).out, ?_⟩
  rw [exchangeTop_eq, hframe]
  cases x <;> rfl

/-- The register is written back what it held. -/
theorem State.setBase_base_after (w : Word) (m m' : Memory) (o o' : Outputs) :
    State.setBase x (s.base x) { (State.setBase x w { s with mem := m, out := o }) with mem := m', out := o' } =
      { s with mem := m', out := o' } := by
  cases x <;> simp [State.setBase, State.base, State.setHL, State.hl]

theorem wordAt_exchangeTop (h1 : s.kindAt s.sp = .ram) (h2 : s.kindAt (s.sp + 1#16) = .ram) :
    (exchangeTop x s).wordAt s.sp = s.base x := by
  have hmemory : ((exchangeTop x s).kindAt s.sp).isMemory = true := by
    rw [State.kindAt_congr (exchangeTop_env x s)]
    exact MemKind.isMemory_of_ram h1
  rw [State.wordAt_of_memory hmemory, byteAt_exchangeTop x (MemKind.isMemory_of_ram h1),
    byteAt_exchangeTop x (MemKind.isMemory_of_ram h2)]
  simp [h1, h2]

end

/-- On RAM two exchanges change nothing but memory and the outputs. -/
theorem exchangeTop_twice (x : Base16) {s : State} (h1 : s.kindAt s.sp = .ram)
    (h2 : s.kindAt (s.sp + 1#16) = .ram) :
    ∃ m o, exchangeTop x (exchangeTop x s) = { s with mem := m, out := o } := by
  have hkind (y : Word) : (exchangeTop x s).kindAt y = s.kindAt y := State.kindAt_congr (exchangeTop_env x s) y
  obtain ⟨m, o, hfirst⟩ := exchangeTop_of_ram x h1 h2
  obtain ⟨m', o', hsecond⟩ := exchangeTop_of_ram x (s := exchangeTop x s)
    (by rw [hkind, exchangeTop_sp, h1]) (by rw [hkind, exchangeTop_sp, h2])
  have hword : (exchangeTop x s).wordAt (exchangeTop x s).sp = s.base x := by
    rw [exchangeTop_sp, wordAt_exchangeTop x h1 h2]
  refine ⟨m', o', ?_⟩
  rw [hsecond, hword, hfirst, State.setBase_base_after]

/-- On RAM two exchanges leave every byte of memory as it was. -/
theorem byteAt_exchangeTop_twice (x : Base16) {s : State} (h1 : s.kindAt s.sp = .ram) {y : Word}
    (hy : (s.kindAt y).isMemory = true) :
    (exchangeTop x (exchangeTop x s)).byteAt y = s.byteAt y := by
  have hkind : (exchangeTop x s).kindAt y = s.kindAt y := State.kindAt_congr (exchangeTop_env x s) y
  have hword : s.wordAt s.sp = wordOf (s.byteAt (s.sp + 1#16)) (s.byteAt s.sp) :=
    State.wordAt_of_memory (MemKind.isMemory_of_ram h1)
  rw [byteAt_exchangeTop x (by rw [hkind, hy]), byteAt_exchangeTop x hy, exchangeTop_base, exchangeTop_sp,
    hkind, hword, lo8_wordOf, hi8_wordOf]
  by_cases hlow : s.kindAt y = .ram ∧ y = s.sp
  · rw [if_pos hlow, hlow.2]
  · rw [if_neg hlow, if_neg hlow]
    by_cases hhigh : s.kindAt y = .ram ∧ y = s.sp + 1#16
    · rw [if_pos hhigh, hhigh.2]
    · rw [if_neg hhigh, if_neg hhigh]

/-- Settles O54. -/
theorem exchangeTwiceRestores : Obligations.ExchangeTwiceRestores := by
  intro x s hwf h1 h2
  have hrow := wf_of_isRow (isRow_exSP x) (Base16.wf_eq x ▸ hwf)
  have hfirst := (Performs.exSP x).exec_of_wf hrow
  have hpolicy : (exchangeTop x s).policy = s.policy := State.setBase_policy x _ (s.replaceTop (s.base x))
  have hsecond := (Performs.exSP x).exec_of_wf (s := exchangeTop x s) (hpolicy ▸ hrow)
  obtain ⟨m, o, hstate⟩ := exchangeTop_twice x h1 h2
  refine ⟨_, _, hfirst, hsecond, ?frame, ?env, fun y hy => byteAt_exchangeTop_twice x h1 hy⟩
  case frame => rw [hstate]
  case env => rw [exchangeTop_env, exchangeTop_env]

/-! ### The orders of the counts (70 R233) -/

/-- An arithmetic instruction of the policy outputs the count of its operand form. -/
theorem exec_alu_cycles (op : AluOp) {src : Src8} {s : State} (hwf : src.wf s.policy = true) :
    ∃ t, exec (Instr.alu op src) s = .next t ∧ t.out.cycles = some (tAlu src) :=
  ⟨_, exec_alu op hwf, rfl⟩

theorem tCallIf_not_taken_lt (p : Policy) : tCallIf p false < tCallIf p true := by
  cases p <;> decide

/-- Settles O57. -/
theorem timingOrders : Obligations.TimingOrders := by
  refine ⟨fun op r n s => ?alu, fun cc nn s s' hpolicy htaken hnot => ?branches⟩
  case alu =>
    obtain ⟨t1, hexec1, hcycles1⟩ := exec_alu_cycles op (src := .loc (.reg r)) (s := s) rfl
    obtain ⟨t2, hexec2, hcycles2⟩ := exec_alu_cycles op (src := .imm n) (s := s) rfl
    obtain ⟨t3, hexec3, hcycles3⟩ := exec_alu_cycles op (src := .loc .indHL) (s := s) rfl
    refine ⟨t1, t2, t3, _, _, _, hexec1, hcycles1, hexec2, hcycles2, hexec3, hcycles3,
      by simp [tAlu], by simp [tAlu], fun hp d => ?_⟩
    obtain ⟨t4, hexec4, hcycles4⟩ := exec_alu_cycles op (src := .loc (.indIX d)) (s := s) (by rw [hp]; rfl)
    obtain ⟨t5, hexec5, hcycles5⟩ := exec_alu_cycles op (src := .loc (.indIY d)) (s := s) (by rw [hp]; rfl)
    exact ⟨t4, t5, _, _, hexec4, hcycles4, hexec5, hcycles5, by simp [tAlu], by simp [tAlu]⟩
  case branches =>
    have hholds := Flags.holds_of_tests htaken
    have hskips := Flags.holds_of_not_tests hnot
    have hcall (u : State) := (Performs.callCond cc nn).exec_of_wf (s := u)
      (wf_of_isRow (isRow_callCond cc nn) rfl)
    have hret (u : State) := (Performs.retCond cc).exec_of_wf (s := u) (wf_of_isRow (isRow_retCond cc) rfl)
    refine ⟨_, _, _, _, _, _, _, _, hcall s, ?_, hcall s', ?_, tCallIf_not_taken_lt s.policy, hret s, ?_,
      hret s', ?_, (by decide : tReturnIf false < tReturnIf true)⟩
    · rw [callIf_taken nn hholds]; rfl
    · rw [callIf_not_taken nn hskips, hpolicy]; rfl
    · rw [returnIf_taken hholds]; rfl
    · rw [returnIf_not_taken hskips]; rfl

end Sys2Proof.Machine
end

section
/-! SUPPORT. Reset, HALT and what one access does (70 R230, 48 R200, 20_memory.md R50), and the operands the
other statements are about (41 R110, 30_encoding.md R72, R73, R78). -/

namespace Sys2Proof.Machine

open Sys2Proof.Claims

/-! ### Reset and HALT -/

/-- Refutes O9: its `s.applyReset launch` hands the state `s` over as the first argument of `State.applyReset`,
which is the one that gives the unspecified values, so that SP is then the one of `s` and not of `launch`. -/
theorem not_resetInputValues : ¬ Obligations.ResetInputValues := by
  intro h
  obtain ⟨-, -, -, -, -, -, -, -, -, -, hsp, -⟩ := h State.reset { State.reset with sp := 1#16 }
  exact absurd hsp (by decide)

/-- Settles O10: after reset nothing is listed, so every address is RAM and reads as an unlisted cell. -/
theorem resetStateValues : Obligations.ResetStateValues := by
  have hregs (r : Reg8) : State.reset.reg8 r = 0#8 := by cases r <;> rfl
  exact ⟨rfl, rfl, rfl, rfl, hregs, rfl, rfl, rfl, rfl, rfl, rfl, rfl, rfl, rfl, rfl, rfl, rfl,
    fun _ => rfl, rfl, fun _ => rfl, rfl, rfl, rfl, fun _ => rfl, rfl⟩

/-- Settles O55. -/
theorem haltResult : Obligations.HaltResult := by
  intro s
  have hexec := Performs.halt.exec_of_wf (s := s) (wf_of_isRow isRow_halt rfl)
  exact ⟨isRow_halt, _, hexec, rfl, by simp [Accesses, haltBlock, State.charge], rfl, rfl,
    fun _ => State.byteAt_congr rfl rfl⟩

/-! ### Memory and ports -/

/-- An address lies in a region, which may wrap around the address space, exactly if it is close enough behind
its base. -/
theorem Region.holds_iff (base y : Word) (size : Nat) :
    (∃ k, k < size ∧ y = base + BitVec.ofNat 16 k) ↔ (y - base).toNat < size := by
  constructor
  · rintro ⟨k, hk, rfl⟩
    have hoffset : base + BitVec.ofNat 16 k - base = BitVec.ofNat 16 k := by bv_omega
    rw [hoffset, BitVec.toNat_ofNat]
    exact (Nat.mod_le ..).trans_lt hk
  · intro h
    exact ⟨_, h, by rw [BitVec.ofNat_toNat, BitVec.setWidth_eq]; bv_omega⟩

theorem Environment.kindAt_cons_of_holds {r : Region} {y : Word} (env : Environment)
    (h : ∃ k, k < r.size ∧ y = r.base + BitVec.ofNat 16 k) : Environment.kindAt (r :: env) y = r.kind :=
  if_pos ((Region.holds_iff r.base y r.size).1 h)

theorem Environment.kindAt_cons_of_not_holds {r : Region} {y : Word} (env : Environment)
    (h : ∀ k, k < r.size → y ≠ r.base + BitVec.ofNat 16 k) :
    Environment.kindAt (r :: env) y = Environment.kindAt env y :=
  if_neg fun hlt =>
    let ⟨k, hk, hy⟩ := (Region.holds_iff r.base y r.size).2 hlt
    h k hk hy

theorem MemKind.isMemory_iff (k : MemKind) : k.isMemory = true ↔ k = .ram ∨ k = .rom := by
  cases k <;> simp [MemKind.isMemory]

/-- The accesses that a hole or a device answers. -/
theorem State.outside_iff (s : State) (a : Access) :
    s.outside a = true ↔
      ∃ y w, (a = .memRead y w ∨ a = .memWrite y w) ∧ (s.kindAt y = .hole ∨ s.kindAt y = .device) := by
  have hkind (x : Word) : (!(s.kindAt x).isMemory) = true ↔ s.kindAt x = .hole ∨ s.kindAt x = .device := by
    cases s.kindAt x <;> simp [MemKind.isMemory]
  cases a with
  | memRead x v | memWrite x v => simp [State.outside, hkind]
  | ioRead port v | ioWrite port v => simp [State.outside]

theorem State.byteAt_memWrite_ram {s : State} {x : Word} (v : Byte) (h : s.kindAt x = .ram) :
    (s.memWrite x v).byteAt x = v := by
  rw [State.byteAt_memWrite x v (MemKind.isMemory_of_ram h), if_pos ⟨rfl, h⟩]

/-- A write leaves every other byte of memory, and its own where ROM is attached. -/
theorem State.byteAt_memWrite_kept {s : State} {x y : Word} (v : Byte) (hy : (s.kindAt y).isMemory = true)
    (h : y = x → s.kindAt y = .rom) : (s.memWrite x v).byteAt y = s.byteAt y := by
  refine (State.byteAt_memWrite x v hy).trans (if_neg ?_)
  rintro ⟨hyx, hram⟩
  cases hram.symm.trans (h hyx)

theorem State.ioRead_ioWrite_same (port v : Byte) (s : State) : ((s.ioWrite port v).ioRead port).1 = v :=
  Memory.lookup_insert_same ..

theorem State.ioRead_ioWrite_other {port port' : Byte} (v : Byte) (s : State) (h : port' ≠ port) :
    ((s.ioWrite port v).ioRead port').1 = (s.ioRead port').1 :=
  Memory.lookup_insert_other _ _ fun hport => h (BitVec.eq_of_toNat_eq hport)

/-- Settles O58. -/
theorem memoryAndPortAccesses : Obligations.MemoryAndPortAccesses := by
  intro v port port' addr s
  refine ⟨fun _ => rfl,
    fun r env y => ⟨Environment.kindAt_cons_of_holds env, Environment.kindAt_cons_of_not_holds env⟩,
    fun _ => rfl, MemKind.isMemory_iff, s.outside_iff, rfl, ?readKeeps, State.memRead_accesses addr s,
    State.byteAt_memWrite_ram v, fun y hy => State.byteAt_memWrite_kept v hy, rfl,
    State.memWrite_accesses addr v s, s.ioRead_ioWrite_same port v, s.ioRead_ioWrite_other v, ?portKeeps, rfl,
    rfl⟩
  case readKeeps => exact ⟨rfl, fun y => State.byteAt_memRead addr⟩
  case portKeeps => exact ⟨rfl, fun y => State.byteAt_congr rfl rfl⟩

/-! ### Operands -/

theorem signedByte_eq_toInt (d : Byte) : signedByte d = d.toInt := by
  rw [signedByte, BitVec.toInt_eq_toNat_cond]
  have hd := d.isLt
  split <;> split <;> omega

/-- A displacement moves an address by its signed value, modulo 65536 (D15). -/
theorem add_sext16_toNat (x : Word) (d : Byte) :
    ((x + sext16 d).toNat : Int) = (x.toNat + signedByte d) % 65536 := by
  have hsext : ((sext16 d).toNat : Int) % 65536 = signedByte d % 65536 := by
    rw [signedByte_eq_toInt, ← sext16_toInt, BitVec.toInt_eq_toNat_cond]
    split <;> omega
  rw [BitVec.toNat_add]
  push_cast
  omega

/-- Settles O59. -/
theorem effectiveAddressOfOperand : Obligations.EffectiveAddressOfOperand := by
  intro r d s
  exact ⟨rfl, ⟨_, rfl, wordOf_toNat s.h s.l⟩, ⟨_, rfl, add_sext16_toNat s.ix d⟩, _, rfl,
    add_sext16_toNat s.iy d⟩

/-- Settles O60. -/
theorem operandsAreWhatTheyName : Obligations.OperandsAreWhatTheyName := by
  intro s
  exact ⟨⟨rfl, rfl, rfl, rfl, rfl, rfl, rfl⟩, ⟨wordOf_toNat .., wordOf_toNat .., wordOf_toNat ..⟩,
    ⟨rfl, rfl, rfl, rfl, rfl, rfl⟩, ⟨rfl, rfl, rfl⟩, fun x => ⟨rfl, rfl, rfl, rfl⟩,
    fun w => ⟨hi8_toNat w, lo8_toNat w⟩, fun r => rfl, fun m x => State.placeValue_of_ea, fun m => rfl,
    fun n => rfl⟩

end Sys2Proof.Machine
end
